-- ==== Sys2Proof/Word.lean ====
section
/-! DEFINITION. The word types of IRSW and their plainest arithmetic (00_scope.md, section 6: bit 0 is the least significant
bit, every value is unsigned). -/

namespace Sys2Proof

/-- The 32-bit bus word (20_memory.md R60). -/
abbrev Word := BitVec 32

/-- A byte: a payload byte, a byte of the NEC word, a button code, a byte offset in the register window. -/
abbrev Byte := BitVec 8

/-- A pulse sample: ticks between two successive edges, 16 bits (30_encoding.md R93). -/
abbrev Sample := BitVec 16

/-- `|a - b|` on exact integers, for natural numbers. -/
def absDiff (a b : Nat) : Nat := if a ≤ b then b - a else a - b

end Sys2Proof
end

