-- ==== Sys2Proof/Syntax.lean ====
section
/-! DEFINITION. The operations of IRSW (one constructor per operation of spec/opcode_table.json), the words that select
them, and the inputs of one tick. -/

namespace Sys2Proof

/-- One host request (00_scope.md R9: `(offset, we, wdata)`). `size` is the access width in bytes: 20_memory.md R61 speaks
of requests that are not 32 bits wide, so a request says its width (log entry 5). -/
structure BusRequest where
  off   : Byte
  we    : Bool
  wdata : Word
  size  : Nat
deriving DecidableEq, Repr, Inhabited

/-- The inputs of one tick, `In = (rst, ir_in, dq_in, bus)` (00_scope.md R9). -/
structure TickInput where
  rst  : Bool
  irIn : Bool
  dqIn : Bool
  bus  : Option BusRequest
deriving DecidableEq, Repr, Inhabited

/-- The 54 operations (30_encoding.md R105). Only bus operations have operands: the fields of the request word that their
selection leaves free (R98). The wdata of a read is no operand (R98: 0 for a read). -/
inductive Instr where
  -- capture, 40_capture.md
  | capOff | capQuiet | capTimeoutDeliver | capTimeoutEmpty | capBaseline
  | capBoundaryDeliver | capBoundaryEmpty | capAppend | capDiscard
  -- decoder, 41_decoder.md
  | decIdle | decRepeat | decBadlen | decNec
  -- sensor, 42_sensor.md
  | snsIdle | snsStartLowCont | snsStartLowEnd | snsReleaseCont | snsReleaseEnd
  | snsRespLowOk | snsRespLowWait | snsRespLowFail
  | snsRespHighOk | snsRespHighWait | snsRespHighFail
  | snsDataLowOk | snsDataLowWait | snsDataLowFail
  | snsBitHighOk | snsBitHighWait | snsBitHighFail
  | snsMeasureBit | snsMeasureLastOk | snsMeasureLastBad | snsMeasureWait | snsMeasureFail
  -- bus, 43_host_bus.md
  | busIdle
  | rdCtrl | rdCmd | rdStatus | rdIrResult | rdIrRaw | rdIrLen | rdSnsResult | rdSnsData0 | rdSnsData1
  | rdRsvd (off : Byte)
  | wrCtrl (wdata : Word)
  | wrCmdNop (wdata : Word)
  | wrCmdSnsStart (wdata : Word)
  | wrCmdRsvd (wdata : Word)
  | wrStatus (wdata : Word)
  | wrRo (off : Byte) (wdata : Word)
  | wrRsvd (off : Byte) (wdata : Word)
  | busMisaligned (off : Byte) (we : Bool) (wdata : Word)
deriving DecidableEq, Repr

/-- The selecting words of the opcode table's formats: the condition vectors of 30_encoding.md R100, R101 and R102, no
request (BUS_NONE), and the request word of R98. `oddSize` is a request that is not 32 bits wide: R98 gives it no word
(log entry 5). -/
inductive UnitWord where
  | capVec (v : BitVec 7)
  | decVec (v : BitVec 3)
  | snsVec (v : BitVec 7)
  | busNone
  | busReq (w : BitVec 41)
  | oddSize (off : Byte) (we : Bool) (wdata : Word)
deriving DecidableEq, Repr

/-- The four units (10_state.md R20). -/
inductive UnitName where
  | bus | decoder | capture | sensor
deriving DecidableEq, Repr

end Sys2Proof
end

