-- ==== Sys2Proof/Config.lean ====
section
/-! DEFINITION. What an instance of IRSW fixes (00_scope.md R7) and the free values the spec leaves open. -/

namespace Sys2Proof

/-- The parameters of an instance (00_scope.md R7, 10_state.md R44), with R7's constraints. `basePage` is BASE / 256: BASE is
any 256-byte aligned address. `buttons` is BUTTON_MAP as a table: a command that it does not list is unmapped, and no entry
maps to 0xFF (R7, R97). No operation changes a parameter; State carries them so that a statement about every state is a
statement about every instance (log entry 1). -/
structure Config where
  cap      : Nat
  w        : Nat
  tRel     : Nat
  basePage : Nat
  buttons  : List (Byte × Byte)
  cap_range  : 68 ≤ cap ∧ cap ≤ 65535
  w_range    : 17 ≤ w ∧ w ≤ 64
  tRel_range : 40 ≤ tRel ∧ tRel ≤ 18000
  buttons_mapped : (buttons.all (fun e => e.2 != 0xFF#8)) = true
deriving DecidableEq, Repr

/-- The reference values of 00_scope.md R7, with the all-unmapped table of the test vectors (95_test_vectors.md, section 0).
BASE is OPEN in the spec; 0 here is DESIGN CHOICE (log entry 13). -/
def Config.reference : Config where
  cap := 100
  w := 32
  tRel := 40
  basePage := 0
  buttons := []
  cap_range := by decide
  w_range := by decide
  tRel_range := by decide
  buttons_mapped := by decide

/-- BASE, the bus address of offset 0x00 (00_scope.md R7). -/
def Config.base (c : Config) : Nat := 256 * c.basePage

/-- FREE VALUE: what a BUF entry holds that nothing has written since the reset that drew the bank contents
(93_implementation_defined.md U1; 10_state.md R40). The arguments are the draw and the entry's key (log entry 3). -/
opaque Config.freeSample : Nat → Nat → Sample

/-- FREE VALUE: the inputs of a tick for which State lists none; the environment supplies them freely (00_scope.md R9).
The argument is the draw (log entry 2). -/
opaque Config.freeInput : Nat → TickInput

end Sys2Proof
end

