-- ==== Sys2Proof/WellFormed.lean ====
section
/-! DEFINITION. Which operations have an encoding: the bounds that 30_encoding.md R98 and R103 put on the operands. -/

namespace Sys2Proof

/-- `off` is one of the reserved offsets, the multiples of 4 from 0x24 to 0xFC (30_encoding.md R80, R92). -/
def reservedOffset (off : Byte) : Bool := off.toNat % 4 == 0 && decide (0x24 ≤ off.toNat)

/-- `off` is one of the read-only registers' offsets 0x0C, 0x10, …, 0x20 (30_encoding.md R80, R103). -/
def readOnlyOffset (off : Byte) : Bool :=
  off.toNat % 4 == 0 && decide (0x0C ≤ off.toNat) && decide (off.toNat ≤ 0x20)

/-- CMD.OP, bits 3:0 of the word written (30_encoding.md R82). -/
def cmdOp (wdata : Word) : Nat := wdata.toNat % 16

/-- The operand bounds of 30_encoding.md R103; an operation without operands is always well-formed. -/
def Instr.wellFormed : Instr → Bool
  | .rdRsvd off => reservedOffset off
  | .wrCmdNop wdata => cmdOp wdata == 0
  | .wrCmdSnsStart wdata => cmdOp wdata == 1
  | .wrCmdRsvd wdata => decide (2 ≤ cmdOp wdata)
  | .wrRo off _ => readOnlyOffset off
  | .wrRsvd off _ => reservedOffset off
  | .busMisaligned off _ _ => off.toNat % 4 != 0
  | .wrCtrl _ | .wrStatus _
  | .capOff | .capQuiet | .capTimeoutDeliver | .capTimeoutEmpty | .capBaseline
  | .capBoundaryDeliver | .capBoundaryEmpty | .capAppend | .capDiscard
  | .decIdle | .decRepeat | .decBadlen | .decNec
  | .snsIdle | .snsStartLowCont | .snsStartLowEnd | .snsReleaseCont | .snsReleaseEnd
  | .snsRespLowOk | .snsRespLowWait | .snsRespLowFail
  | .snsRespHighOk | .snsRespHighWait | .snsRespHighFail
  | .snsDataLowOk | .snsDataLowWait | .snsDataLowFail
  | .snsBitHighOk | .snsBitHighWait | .snsBitHighFail
  | .snsMeasureBit | .snsMeasureLastOk | .snsMeasureLastBad | .snsMeasureWait | .snsMeasureFail
  | .busIdle | .rdCtrl | .rdCmd | .rdStatus | .rdIrResult | .rdIrRaw | .rdIrLen
  | .rdSnsResult | .rdSnsData0 | .rdSnsData1 => true

/-- The unit an operation belongs to (30_encoding.md R105: 9 capture, 4 decoder, 22 sensor, 19 bus). -/
def Instr.unitOf : Instr → UnitName
  | .capOff | .capQuiet | .capTimeoutDeliver | .capTimeoutEmpty | .capBaseline
  | .capBoundaryDeliver | .capBoundaryEmpty | .capAppend | .capDiscard => .capture
  | .decIdle | .decRepeat | .decBadlen | .decNec => .decoder
  | .snsIdle | .snsStartLowCont | .snsStartLowEnd | .snsReleaseCont | .snsReleaseEnd
  | .snsRespLowOk | .snsRespLowWait | .snsRespLowFail
  | .snsRespHighOk | .snsRespHighWait | .snsRespHighFail
  | .snsDataLowOk | .snsDataLowWait | .snsDataLowFail
  | .snsBitHighOk | .snsBitHighWait | .snsBitHighFail
  | .snsMeasureBit | .snsMeasureLastOk | .snsMeasureLastBad | .snsMeasureWait | .snsMeasureFail => .sensor
  | .busIdle | .rdCtrl | .rdCmd | .rdStatus | .rdIrResult | .rdIrRaw | .rdIrLen
  | .rdSnsResult | .rdSnsData0 | .rdSnsData1 | .rdRsvd _ | .wrCtrl _ | .wrCmdNop _ | .wrCmdSnsStart _ | .wrCmdRsvd _
  | .wrStatus _ | .wrRo _ _ | .wrRsvd _ _ | .busMisaligned _ _ _ => .bus

end Sys2Proof
end

