-- ==== Sys2Proof/Decode.lean ====
section
/-! DEFINITION. Selecting an operation: the decoder from the condition vectors and the request word (30_encoding.md,
sections 4, 6 and 7), the table of spec/opcode_table.json, the encoder, and the host's line syntax (section 8). -/

namespace Sys2Proof

/-- Why a word selects nothing. `noRow`: a condition vector that no row of its table matches (R105: there is none; safe).
`bitsAboveVector`: a number with a bit set above its format's width, offered as a word of that format (safe). -/
inductive DecodeError where
  | noRow
  | bitsAboveVector
deriving DecidableEq, Repr

/-! ## Condition vectors (R100, R101, R102) -/

/-- A row of a condition-vector table: it applies to `v` when `(v AND mask) = pattern` (30_encoding.md, section 6). -/
structure VecRow (n : Nat) where
  mask    : BitVec n
  pattern : BitVec n
  op      : Instr
deriving DecidableEq, Repr

/-- `(vector AND mask) = match`. -/
def VecRow.hits {n : Nat} (r : VecRow n) (v : BitVec n) : Bool := v &&& r.mask == r.pattern

/-- The selection rows of the capture, 30_encoding.md R100, as spec/opcode_table.json gives mask and match. -/
def capRows : List (VecRow 7) := [
  ⟨0x01#7, 0x00#7, .capOff⟩,
  ⟨0x23#7, 0x01#7, .capQuiet⟩,
  ⟨0x63#7, 0x61#7, .capTimeoutDeliver⟩,
  ⟨0x63#7, 0x21#7, .capTimeoutEmpty⟩,
  ⟨0x07#7, 0x03#7, .capBaseline⟩,
  ⟨0x4F#7, 0x4F#7, .capBoundaryDeliver⟩,
  ⟨0x4F#7, 0x0F#7, .capBoundaryEmpty⟩,
  ⟨0x1F#7, 0x17#7, .capAppend⟩,
  ⟨0x1F#7, 0x07#7, .capDiscard⟩]

/-- The selection rows of the decoder, R101, as spec/opcode_table.json gives mask and match. -/
def decRows : List (VecRow 3) := [
  ⟨0x1#3, 0x0#3, .decIdle⟩,
  ⟨0x3#3, 0x3#3, .decNec⟩,
  ⟨0x7#3, 0x5#3, .decRepeat⟩,
  ⟨0x7#3, 0x1#3, .decBadlen⟩]

/-- The selection rows of the sensor, R102, as spec/opcode_table.json gives mask and match. -/
def snsRows : List (VecRow 7) := [
  ⟨0x07#7, 0x00#7, .snsIdle⟩,
  ⟨0x17#7, 0x01#7, .snsStartLowCont⟩,
  ⟨0x17#7, 0x11#7, .snsStartLowEnd⟩,
  ⟨0x17#7, 0x02#7, .snsReleaseCont⟩,
  ⟨0x17#7, 0x12#7, .snsReleaseEnd⟩,
  ⟨0x0F#7, 0x03#7, .snsRespLowOk⟩,
  ⟨0x1F#7, 0x0B#7, .snsRespLowWait⟩,
  ⟨0x1F#7, 0x1B#7, .snsRespLowFail⟩,
  ⟨0x0F#7, 0x0C#7, .snsRespHighOk⟩,
  ⟨0x1F#7, 0x04#7, .snsRespHighWait⟩,
  ⟨0x1F#7, 0x14#7, .snsRespHighFail⟩,
  ⟨0x0F#7, 0x05#7, .snsDataLowOk⟩,
  ⟨0x1F#7, 0x0D#7, .snsDataLowWait⟩,
  ⟨0x1F#7, 0x1D#7, .snsDataLowFail⟩,
  ⟨0x0F#7, 0x0E#7, .snsBitHighOk⟩,
  ⟨0x1F#7, 0x06#7, .snsBitHighWait⟩,
  ⟨0x1F#7, 0x16#7, .snsBitHighFail⟩,
  ⟨0x2F#7, 0x07#7, .snsMeasureBit⟩,
  ⟨0x6F#7, 0x67#7, .snsMeasureLastOk⟩,
  ⟨0x6F#7, 0x27#7, .snsMeasureLastBad⟩,
  ⟨0x1F#7, 0x0F#7, .snsMeasureWait⟩,
  ⟨0x1F#7, 0x1F#7, .snsMeasureFail⟩]

/-- The operation a condition vector selects: that of the row that applies. -/
def decodeVec {n : Nat} (rows : List (VecRow n)) (v : BitVec n) : Except DecodeError Instr :=
  match rows.find? (fun r => r.hits v) with
  | some r => .ok r.op
  | none => .error .noRow

/-! ## Request words (R98, R103) -/

/-- `req[7:0] = off` (R98). -/
def reqOff (w : BitVec 41) : Byte := w.extractLsb' 0 8

/-- `req[8] = we` (R98). -/
def reqWe (w : BitVec 41) : Bool := w.getLsbD 8

/-- `req[40:9] = wdata` (R98). -/
def reqWdata (w : BitVec 41) : Word := w.extractLsb' 9 32

/-- The request word `{wdata, we, off}` (R98). -/
def requestWord (off : Byte) (we : Bool) (wdata : Word) : BitVec 41 := wdata ++ BitVec.ofBool we ++ off

/-- A read at an aligned offset (R103: R222–R231). -/
def decodeRead (off : Byte) : Instr :=
  if off = 0x00#8 then .rdCtrl
  else if off = 0x04#8 then .rdCmd
  else if off = 0x08#8 then .rdStatus
  else if off = 0x0C#8 then .rdIrResult
  else if off = 0x10#8 then .rdIrRaw
  else if off = 0x14#8 then .rdIrLen
  else if off = 0x18#8 then .rdSnsResult
  else if off = 0x1C#8 then .rdSnsData0
  else if off = 0x20#8 then .rdSnsData1
  else .rdRsvd off

/-- A write of CMD, by CMD.OP (R82, R103: R233–R235). -/
def decodeCommand (wdata : Word) : Instr :=
  if cmdOp wdata = 0 then .wrCmdNop wdata
  else if cmdOp wdata = 1 then .wrCmdSnsStart wdata
  else .wrCmdRsvd wdata

/-- A write at an aligned offset (R103: R232–R238). -/
def decodeWrite (off : Byte) (wdata : Word) : Instr :=
  if off = 0x00#8 then .wrCtrl wdata
  else if off = 0x04#8 then decodeCommand wdata
  else if off = 0x08#8 then .wrStatus wdata
  else if readOnlyOffset off then .wrRo off wdata
  else .wrRsvd off wdata

/-- The operation of a 32-bit request (R103). -/
def decodeFields (off : Byte) (we : Bool) (wdata : Word) : Instr :=
  if off.toNat % 4 ≠ 0 then .busMisaligned off we wdata
  else if we then decodeWrite off wdata
  else decodeRead off

/-- The operation a request word selects (R98, R103). -/
def decodeRequest (w : BitVec 41) : Instr := decodeFields (reqOff w) (reqWe w) (reqWdata w)

/-- A row of the bus part of spec/opcode_table.json. An operation may have several rows (R105). -/
structure BusRow where
  mask     : BitVec 41
  pattern  : BitVec 41
  mnemonic : String
deriving DecidableEq, Repr

/-- `(word AND mask) = match`. -/
def BusRow.hits (r : BusRow) (w : BitVec 41) : Bool := w &&& r.mask == r.pattern

/-- The bus table: the read rows of spec/opcode_table.json (BUS_REQ41). -/
def busReadRows : List BusRow := [
  ⟨0x1FF#41, 0x0#41, "RD_CTRL"⟩,
  ⟨0x1FF#41, 0x4#41, "RD_CMD"⟩,
  ⟨0x1FF#41, 0x8#41, "RD_STATUS"⟩,
  ⟨0x1FF#41, 0xC#41, "RD_IR_RESULT"⟩,
  ⟨0x1FF#41, 0x10#41, "RD_IR_RAW"⟩,
  ⟨0x1FF#41, 0x14#41, "RD_IR_LEN"⟩,
  ⟨0x1FF#41, 0x18#41, "RD_SNS_RESULT"⟩,
  ⟨0x1FF#41, 0x1C#41, "RD_SNS_DATA0"⟩,
  ⟨0x1FF#41, 0x20#41, "RD_SNS_DATA1"⟩,
  ⟨0x1FF#41, 0x24#41, "RD_RSVD"⟩,
  ⟨0x1FB#41, 0x28#41, "RD_RSVD"⟩,
  ⟨0x1F3#41, 0x30#41, "RD_RSVD"⟩,
  ⟨0x1C3#41, 0x40#41, "RD_RSVD"⟩,
  ⟨0x183#41, 0x80#41, "RD_RSVD"⟩]

/-- The write rows. -/
def busWriteRows : List BusRow := [
  ⟨0x1FF#41, 0x100#41, "WR_CTRL"⟩,
  ⟨0x1FFF#41, 0x104#41, "WR_CMD_NOP"⟩,
  ⟨0x1FFF#41, 0x304#41, "WR_CMD_SNS_START"⟩,
  ⟨0x5FF#41, 0x504#41, "WR_CMD_RSVD"⟩,
  ⟨0xDFF#41, 0x904#41, "WR_CMD_RSVD"⟩,
  ⟨0x1DFF#41, 0x1104#41, "WR_CMD_RSVD"⟩,
  ⟨0x1FF#41, 0x108#41, "WR_STATUS"⟩,
  ⟨0x1FF#41, 0x10C#41, "WR_RO"⟩,
  ⟨0x1F3#41, 0x110#41, "WR_RO"⟩,
  ⟨0x1FF#41, 0x120#41, "WR_RO"⟩,
  ⟨0x1FF#41, 0x124#41, "WR_RSVD"⟩,
  ⟨0x1FB#41, 0x128#41, "WR_RSVD"⟩,
  ⟨0x1F3#41, 0x130#41, "WR_RSVD"⟩,
  ⟨0x1C3#41, 0x140#41, "WR_RSVD"⟩,
  ⟨0x183#41, 0x180#41, "WR_RSVD"⟩]

/-- The rows of the refused requests. -/
def busRefusedRows : List BusRow := [
  ⟨0x1#41, 0x1#41, "BUS_MISALIGNED"⟩,
  ⟨0x3#41, 0x2#41, "BUS_MISALIGNED"⟩]
/-- All rows of the bus table. -/
def busRows : List BusRow := busReadRows ++ busWriteRows ++ busRefusedRows

/-! ## The decoder -/

/-- The operation a word of one of the formats selects. An access that is not 32 bits wide selects BUS_MISALIGNED (R239). -/
def decode : UnitWord → Except DecodeError Instr
  | .capVec v => decodeVec capRows v
  | .decVec v => decodeVec decRows v
  | .snsVec v => decodeVec snsRows v
  | .busNone => .ok .busIdle
  | .busReq w => .ok (decodeRequest w)
  | .oddSize off we wdata => .ok (.busMisaligned off we wdata)

/-- The word a request puts on the bus: its request word if it is 32 bits wide (R61, R98). -/
def busWordOf : Option BusRequest → UnitWord
  | none => .busNone
  | some r => if r.size = 4 then .busReq (requestWord r.off r.we r.wdata) else .oddSize r.off r.we r.wdata

/-! ## The encoder -/

/-- The word of an operation: its row's `match`, with the operands in the fields of R98 (a read's wdata is 0). -/
def encode : Instr → UnitWord
  | .capOff => .capVec 0x00#7
  | .capQuiet => .capVec 0x01#7
  | .capTimeoutDeliver => .capVec 0x61#7
  | .capTimeoutEmpty => .capVec 0x21#7
  | .capBaseline => .capVec 0x03#7
  | .capBoundaryDeliver => .capVec 0x4F#7
  | .capBoundaryEmpty => .capVec 0x0F#7
  | .capAppend => .capVec 0x17#7
  | .capDiscard => .capVec 0x07#7
  | .decIdle => .decVec 0x0#3
  | .decNec => .decVec 0x3#3
  | .decRepeat => .decVec 0x5#3
  | .decBadlen => .decVec 0x1#3
  | .snsIdle => .snsVec 0x00#7
  | .snsStartLowCont => .snsVec 0x01#7
  | .snsStartLowEnd => .snsVec 0x11#7
  | .snsReleaseCont => .snsVec 0x02#7
  | .snsReleaseEnd => .snsVec 0x12#7
  | .snsRespLowOk => .snsVec 0x03#7
  | .snsRespLowWait => .snsVec 0x0B#7
  | .snsRespLowFail => .snsVec 0x1B#7
  | .snsRespHighOk => .snsVec 0x0C#7
  | .snsRespHighWait => .snsVec 0x04#7
  | .snsRespHighFail => .snsVec 0x14#7
  | .snsDataLowOk => .snsVec 0x05#7
  | .snsDataLowWait => .snsVec 0x0D#7
  | .snsDataLowFail => .snsVec 0x1D#7
  | .snsBitHighOk => .snsVec 0x0E#7
  | .snsBitHighWait => .snsVec 0x06#7
  | .snsBitHighFail => .snsVec 0x16#7
  | .snsMeasureBit => .snsVec 0x07#7
  | .snsMeasureLastOk => .snsVec 0x67#7
  | .snsMeasureLastBad => .snsVec 0x27#7
  | .snsMeasureWait => .snsVec 0x0F#7
  | .snsMeasureFail => .snsVec 0x1F#7
  | .busIdle => .busNone
  | .rdCtrl => .busReq (requestWord 0x00#8 false 0#32)
  | .rdCmd => .busReq (requestWord 0x04#8 false 0#32)
  | .rdStatus => .busReq (requestWord 0x08#8 false 0#32)
  | .rdIrResult => .busReq (requestWord 0x0C#8 false 0#32)
  | .rdIrRaw => .busReq (requestWord 0x10#8 false 0#32)
  | .rdIrLen => .busReq (requestWord 0x14#8 false 0#32)
  | .rdSnsResult => .busReq (requestWord 0x18#8 false 0#32)
  | .rdSnsData0 => .busReq (requestWord 0x1C#8 false 0#32)
  | .rdSnsData1 => .busReq (requestWord 0x20#8 false 0#32)
  | .rdRsvd off => .busReq (requestWord off false 0#32)
  | .wrCtrl wdata => .busReq (requestWord 0x00#8 true wdata)
  | .wrCmdNop wdata => .busReq (requestWord 0x04#8 true wdata)
  | .wrCmdSnsStart wdata => .busReq (requestWord 0x04#8 true wdata)
  | .wrCmdRsvd wdata => .busReq (requestWord 0x04#8 true wdata)
  | .wrStatus wdata => .busReq (requestWord 0x08#8 true wdata)
  | .wrRo off wdata => .busReq (requestWord off true wdata)
  | .wrRsvd off wdata => .busReq (requestWord off true wdata)
  | .busMisaligned off we wdata => .busReq (requestWord off we wdata)

/-- The mnemonic of an operation, as spec/opcode_table.json spells it. -/
def Instr.mnemonic : Instr → String
  | .capOff => "CAP_OFF"
  | .capQuiet => "CAP_QUIET"
  | .capTimeoutDeliver => "CAP_TIMEOUT_DELIVER"
  | .capTimeoutEmpty => "CAP_TIMEOUT_EMPTY"
  | .capBaseline => "CAP_BASELINE"
  | .capBoundaryDeliver => "CAP_BOUNDARY_DELIVER"
  | .capBoundaryEmpty => "CAP_BOUNDARY_EMPTY"
  | .capAppend => "CAP_APPEND"
  | .capDiscard => "CAP_DISCARD"
  | .decIdle => "DEC_IDLE"
  | .decNec => "DEC_NEC"
  | .decRepeat => "DEC_REPEAT"
  | .decBadlen => "DEC_BADLEN"
  | .snsIdle => "SNS_IDLE"
  | .snsStartLowCont => "SNS_START_LOW_CONT"
  | .snsStartLowEnd => "SNS_START_LOW_END"
  | .snsReleaseCont => "SNS_RELEASE_CONT"
  | .snsReleaseEnd => "SNS_RELEASE_END"
  | .snsRespLowOk => "SNS_RESP_LOW_OK"
  | .snsRespLowWait => "SNS_RESP_LOW_WAIT"
  | .snsRespLowFail => "SNS_RESP_LOW_FAIL"
  | .snsRespHighOk => "SNS_RESP_HIGH_OK"
  | .snsRespHighWait => "SNS_RESP_HIGH_WAIT"
  | .snsRespHighFail => "SNS_RESP_HIGH_FAIL"
  | .snsDataLowOk => "SNS_DATA_LOW_OK"
  | .snsDataLowWait => "SNS_DATA_LOW_WAIT"
  | .snsDataLowFail => "SNS_DATA_LOW_FAIL"
  | .snsBitHighOk => "SNS_BIT_HIGH_OK"
  | .snsBitHighWait => "SNS_BIT_HIGH_WAIT"
  | .snsBitHighFail => "SNS_BIT_HIGH_FAIL"
  | .snsMeasureBit => "SNS_MEASURE_BIT"
  | .snsMeasureLastOk => "SNS_MEASURE_LAST_OK"
  | .snsMeasureLastBad => "SNS_MEASURE_LAST_BAD"
  | .snsMeasureWait => "SNS_MEASURE_WAIT"
  | .snsMeasureFail => "SNS_MEASURE_FAIL"
  | .busIdle => "BUS_IDLE"
  | .rdCtrl => "RD_CTRL"
  | .rdCmd => "RD_CMD"
  | .rdStatus => "RD_STATUS"
  | .rdIrResult => "RD_IR_RESULT"
  | .rdIrRaw => "RD_IR_RAW"
  | .rdIrLen => "RD_IR_LEN"
  | .rdSnsResult => "RD_SNS_RESULT"
  | .rdSnsData0 => "RD_SNS_DATA0"
  | .rdSnsData1 => "RD_SNS_DATA1"
  | .rdRsvd _ => "RD_RSVD"
  | .wrCtrl _ => "WR_CTRL"
  | .wrCmdNop _ => "WR_CMD_NOP"
  | .wrCmdSnsStart _ => "WR_CMD_SNS_START"
  | .wrCmdRsvd _ => "WR_CMD_RSVD"
  | .wrStatus _ => "WR_STATUS"
  | .wrRo _ _ => "WR_RO"
  | .wrRsvd _ _ => "WR_RSVD"
  | .busMisaligned _ _ _ => "BUS_MISALIGNED"

/-! ## Words given as numbers -/

/-- The unit a word selects for. -/
def UnitWord.unitOf : UnitWord → UnitName
  | .capVec _ => .capture
  | .decVec _ => .decoder
  | .snsVec _ => .sensor
  | .busNone | .busReq _ | .oddSize _ _ _ => .bus

/-- A number read as a word of a unit's format; a bit above the format's width is rejected by name. -/
def unitWordOfNat (u : UnitName) (n : Nat) : Except DecodeError UnitWord :=
  match u with
  | .capture => if n < 2 ^ 7 then .ok (.capVec (BitVec.ofNat 7 n)) else .error .bitsAboveVector
  | .decoder => if n < 2 ^ 3 then .ok (.decVec (BitVec.ofNat 3 n)) else .error .bitsAboveVector
  | .sensor => if n < 2 ^ 7 then .ok (.snsVec (BitVec.ofNat 7 n)) else .error .bitsAboveVector
  | .bus => if n < 2 ^ 41 then .ok (.busReq (BitVec.ofNat 41 n)) else .error .bitsAboveVector

/-- A number decoded as a word of a unit's format. -/
def decodeNat (u : UnitName) (n : Nat) : Except DecodeError Instr :=
  match unitWordOfNat u n with
  | .ok w => decode w
  | .error e => .error e

/-- The number is the `match` of some row. -/
def isPattern {n : Nat} (rows : List (VecRow n)) (w : Nat) : Bool := rows.any (fun r => r.pattern.toNat == w)

/-- The unit whose table a bare table word is read in. A table word of one byte does not say its unit: the three
condition-vector formats share the numbers. It is read as a sensor vector if it is the `match` of a sensor row, else as a
capture vector if it is the `match` of a capture row, else as a sensor vector. A longer word is a request word. The machine
itself never uses this: every unit decodes its own vector (log entry 9). -/
def tableUnit (nbits w : Nat) : UnitName :=
  if 8 < nbits then .bus
  else if isPattern snsRows w then .sensor
  else if isPattern capRows w then .capture
  else .sensor

/-- The operation the decoder reads from a table word (host interface; log entry 9). -/
def decodeTableWord (nbits w : Nat) : Option Instr :=
  match decodeNat (tableUnit nbits w) w with
  | .ok i => some i
  | .error _ => none

/-! ## Host lines (R106, R107) -/

/-- A line of a host program (R106). A register's name is written as its offset. -/
inductive HostLine where
  | rd (off : Byte)
  | wr (off : Byte) (imm : Word)
  | idle (n : Nat)
deriving DecidableEq, Repr

/-- The requests of a line, one a tick (R106: each line is one tick, `IDLE n` is n ticks without a request). -/
def HostLine.requests : HostLine → List (Option BusRequest)
  | .rd off => [some ⟨off, false, 0#32, 4⟩]
  | .wr off imm => [some ⟨off, true, imm, 4⟩]
  | .idle n => List.replicate n none

/-- The requests of a program, in order. -/
def hostProgram (p : List HostLine) : List (Option BusRequest) := p.flatMap HostLine.requests

/-- START_READ (R107). -/
def startRead : HostLine := .wr 0x04#8 1#32
/-- ACK_IR (R107). -/
def ackIr : HostLine := .wr 0x08#8 3#32
/-- ACK_SNS (R107). -/
def ackSns : HostLine := .wr 0x08#8 4#32
/-- ACK_ALL (R107). -/
def ackAll : HostLine := .wr 0x08#8 0x17#32
/-- ENABLE m (R107). -/
def enable (m : Word) : HostLine := .wr 0x00#8 m
/-- One line of POLL REG, mask, val (R107): the same read in every tick until `pollDone` holds of the value returned. The
loop is the host's. -/
def pollLine (off : Byte) : HostLine := .rd off
/-- `(value AND mask) = val` (R107). -/
def pollDone (mask val value : Word) : Bool := value &&& mask == val

end Sys2Proof
end

