-- ==== Sys2Proof/Machine/State.lean ====
section
/-! DEFINITION. The state of IRSW (10_state.md), the reasons a step can stop, and the state after reset. -/

namespace Sys2Proof.Machine

/-- IR_RESULT.KIND (30_encoding.md R84). -/
inductive IrKind where
  | noResult | data | repeatCode | invalid
deriving DecidableEq, Repr, Inhabited

/-- IR_RESULT.REASON (30_encoding.md R85). Codes 8 to 15 are never produced (93_implementation_defined.md U7). -/
inductive Reason where
  | noReason | length | startMark | startSpace | bitMark | bitSpace | addrCheck | cmdCheck
deriving DecidableEq, Repr, Inhabited

/-- SNS_RESULT.CODE (30_encoding.md R89). Codes 0x7 to 0xE are never produced (U7). -/
inductive SnsCode where
  | ok | responseLowTimeout | responseHighTimeout | dataStartTimeout | bitStartTimeout | bitWidthTimeout | checksumError
  | noCode
deriving DecidableEq, Repr, Inhabited

/-- SNS_RESULT.STATE, the reader's FSM state (30_encoding.md R90). -/
inductive SnsState where
  | idle | startLow | release | respLow | respHigh | dataLow | bitHigh | bitMeasure
deriving DecidableEq, Repr, Inhabited

/-- CTRL (10_state.md R24). -/
structure Ctrl where
  irEn     : Bool
  irqIrEn  : Bool
  irqSnsEn : Bool
deriving DecidableEq, Repr

/-- The stored bits of STATUS (10_state.md R25); SNS_BUSY has no storage (R42). -/
structure Status where
  irRdy   : Bool
  irOvr   : Bool
  snsDone : Bool
  cmdErr  : Bool
deriving DecidableEq, Repr

/-- IR_RESULT, field by field (10_state.md R26, 30_encoding.md R84). -/
structure IrResult where
  kind    : IrKind
  reason  : Reason
  address : Byte
  command : Byte
  button  : Byte
deriving DecidableEq, Repr

/-- The pulse memory: the BUF entries written since the last reset, as (key, sample) pairs. The key of entry `i` of a bank is
`bufKey` (Machine/Ops.lean). An entry that is not listed holds a free value (10_state.md R40; log entry 3). -/
abbrev Memory := List (Nat × Sample)

/-- The canonical form: keys strictly rising, and every key that of an entry below CAP of bank 0 (keys from 0) or of bank 1
(keys from 65536). -/
def Memory.wf (cap : Nat) : Memory → Bool
  | [] => true
  | [c] => decide (c.1 % 65536 < cap) && decide (c.1 < 2 * 65536)
  | c :: d :: m => decide (c.1 % 65536 < cap) && decide (c.1 < d.1) && Memory.wf cap (d :: m)

/-- The machine. The fields are listed with their rules in INVENTORY.md. -/
structure State where
  /-- The instance's parameters (00_scope.md R7, R44). No step changes them (log entry 1). -/
  cfg        : Config
  /-- CTRL (R24). -/
  ctrl       : Ctrl
  /-- STATUS (R25). -/
  status     : Status
  /-- IR_RESULT (R26). -/
  irResult   : IrResult
  /-- IR_RAW (R27). -/
  irRaw      : Word
  /-- IR_LEN.LEN (R28). -/
  irLen      : BitVec 16
  /-- SNS_RESULT.CODE (R29). -/
  snsCode    : SnsCode
  /-- SNS_RESULT.NBITS (R29). -/
  snsNbits   : BitVec 6
  /-- SNS_RESULT.STATE (R29). -/
  snsState   : SnsState
  /-- The payload bytes B0..B4 of SNS_DATA0 and SNS_DATA1 (R30). -/
  payload    : Vector Byte 5
  /-- NOW, a number below 2^W (R31). -/
  now        : Nat
  /-- PREV_IR (R32). -/
  prevIr     : Bool
  /-- LAST, a number below 2^W (R33). -/
  last       : Nat
  /-- BASE_VALID (R34). -/
  baseValid  : Bool
  /-- TO_ARMED (R35). -/
  toArmed    : Bool
  /-- IDX (R36). -/
  idx        : BitVec 16
  /-- ACTIVE: bank 0 is false, bank 1 is true (R37). -/
  active     : Bool
  /-- DEC_LEN (R38). -/
  decLen     : BitVec 16
  /-- DEC_PEND (R39). -/
  decPend    : Bool
  /-- BUF (R40). -/
  buf        : Memory
  /-- The draw that the unlisted BUF entries hold: the model's own (log entry 3). -/
  bufDraw    : Nat
  /-- SNS_CNT (R41). -/
  snsCnt     : BitVec 15
  /-- The output dq_oe of the last tick (00_scope.md R9, R48). -/
  dqOe       : Bool
  /-- The output irq of the last tick (R9, R48). -/
  irq        : Bool
  /-- The output rdata of the last tick (R9, 43_host_bus.md R220). -/
  rdata      : Option Word
  /-- The inputs of the next ticks, in order: the model's own (log entry 2). -/
  inputs     : List TickInput
  /-- How many free values have been drawn: the model's own (log entry 2). -/
  draws      : Nat
deriving DecidableEq, Repr

/-- Why a step ends in a fault. -/
inductive Fault where
  /-- Raised by the capture unit's BufWrite at an index not below CAP, an entry that does not exist (10_state.md R40,
  20_memory.md R66). CAP_APPEND is selected only with IDX < CAP, so no tick raises it (log entry 6). Safe. -/
  | noSuchEntry
deriving DecidableEq, Repr

/-- Why a step is refused. -/
inductive Refusal where
  /-- The instruction has no meaning yet. Raised by no arm of exec. Safe. -/
  | notModelled (mnemonic : String)
  /-- BUS_MISALIGNED: a host request with `off[1:0] ≠ 0`, or one that is not 32 bits wide; "The model refuses the step"
  (43_host_bus.md R239; 93_implementation_defined.md U3). Safe. -/
  | outsideContract
  /-- A unit's word selects no operation. 30_encoding.md R105 says that every vector matches a row, so no tick raises it.
  Safe. -/
  | noOperation
deriving DecidableEq, Repr

/-- The state after a reset tick of an instance (70_reset_and_hazards.md R280): every element of 10_state.md R24–R41 at its
reset value, the outputs inactive, and BUF drawn anew. `draws` is the number of draws made before it. -/
def State.afterReset (cfg : Config) (inputs : List TickInput) (draws : Nat) : State where
  cfg := cfg
  ctrl := ⟨false, false, false⟩
  status := ⟨false, false, false, false⟩
  irResult := ⟨.noResult, .noReason, 0#8, 0#8, 0#8⟩
  irRaw := 0#32
  irLen := 0#16
  snsCode := .noCode
  snsNbits := 0#6
  snsState := .idle
  payload := Vector.replicate 5 0#8
  now := 0
  prevIr := true
  last := 0
  baseValid := false
  toArmed := false
  idx := 0#16
  active := false
  decLen := 0#16
  decPend := false
  buf := []
  bufDraw := draws
  snsCnt := 0#15
  dqOe := false
  irq := false
  rdata := none
  inputs := inputs
  draws := draws + 1

/-- The machine right after the reset tick of power-on (R280, R282), an instance with the reference parameters of R7. -/
def State.reset : State := State.afterReset Config.reference [] 0

end Sys2Proof.Machine
end

