-- ==== Sys2Proof/Machine/Operands.lean ====
section
/-! DEFINITION. What the operations read: the constants (00_scope.md R6), the register words (30_encoding.md, section 2), the
measured quantities (pulse, elapsed count, bit value) and the condition vectors (R100–R102). -/

namespace Sys2Proof.Machine

/-! ## Constants (00_scope.md R6) -/

/-- GAP_US: a pulse strictly greater ends a burst. -/
def gapUs : Nat := 15000
/-- FRAME_TIMEOUT_US. -/
def frameTimeoutUs : Nat := 100000
/-- NEC_LEN_MIN: an NEC decode needs `len > 50`. -/
def necLenMin : Nat := 50
/-- REPEAT_LEN_MAX: a repeat needs `0 < len < 10`. -/
def repeatLenMax : Nat := 10
/-- NEC_START_MARK. -/
def necStartMark : Nat := 9000
/-- NEC_START_SPACE. -/
def necStartSpace : Nat := 4500
/-- NEC_BIT_MARK. -/
def necBitMark : Nat := 560
/-- NEC_ZERO_SPACE. -/
def necZeroSpace : Nat := 560
/-- NEC_ONE_SPACE. -/
def necOneSpace : Nat := 1690
/-- TOL_PCT. -/
def tolPct : Nat := 30
/-- NEC_BITS. -/
def necBits : Nat := 32
/-- SNS_START_LOW_US. -/
def snsStartLowUs : Nat := 18000
/-- SNS_RESP_LOW_TO. -/
def snsRespLowTo : Nat := 100
/-- SNS_RESP_HIGH_TO. -/
def snsRespHighTo : Nat := 100
/-- SNS_DATA_START_TO. -/
def snsDataStartTo : Nat := 100
/-- SNS_BIT_START_TO. -/
def snsBitStartTo : Nat := 70
/-- SNS_BIT_WIDTH_TO. -/
def snsBitWidthTo : Nat := 120
/-- SNS_ONE_THRESHOLD: a high time over it is bit 1. -/
def snsOneThreshold : Nat := 40
/-- SNS_BITS. -/
def snsBits : Nat := 40
/-- 0xFF, the button code UnknownOrError (30_encoding.md R97). -/
def unknownOrError : Byte := 0xFF#8

/-! ## Field codes -/

/-- IR_RESULT.KIND (R84). -/
def irKindCode : IrKind → BitVec 2
  | .noResult => 0#2
  | .data => 1#2
  | .repeatCode => 2#2
  | .invalid => 3#2

/-- IR_RESULT.REASON (R85). -/
def reasonCode : Reason → BitVec 4
  | .noReason => 0#4
  | .length => 1#4
  | .startMark => 2#4
  | .startSpace => 3#4
  | .bitMark => 4#4
  | .bitSpace => 5#4
  | .addrCheck => 6#4
  | .cmdCheck => 7#4

/-- SNS_RESULT.CODE (R89). -/
def snsCodeCode : SnsCode → BitVec 4
  | .ok => 0x0#4
  | .responseLowTimeout => 0x1#4
  | .responseHighTimeout => 0x2#4
  | .dataStartTimeout => 0x3#4
  | .bitStartTimeout => 0x4#4
  | .bitWidthTimeout => 0x5#4
  | .checksumError => 0x6#4
  | .noCode => 0xF#4

/-- SNS_RESULT.STATE (R90). -/
def snsStateCode : SnsState → BitVec 3
  | .idle => 0#3
  | .startLow => 1#3
  | .release => 2#3
  | .respLow => 3#3
  | .respHigh => 4#3
  | .dataLow => 5#3
  | .bitHigh => 6#3
  | .bitMeasure => 7#3

/-! ## Register words (R80–R92) -/

/-- SNS_BUSY: the reader is not IDLE (10_state.md R42). -/
def snsBusy (s : State) : Bool := s.snsState != .idle

/-- CTRL (R81): `zext_32({IRQ_SNS_EN, IRQ_IR_EN, IR_EN})`. -/
def ctrlWord (c : Ctrl) : Word :=
  0#29 ++ BitVec.ofBool c.irqSnsEn ++ BitVec.ofBool c.irqIrEn ++ BitVec.ofBool c.irEn

/-- STATUS (R83): `zext_32({CMD_ERR, SNS_BUSY, SNS_DONE, IR_OVR, IR_RDY})`. -/
def statusWord (s : State) : Word :=
  0#27 ++ BitVec.ofBool s.status.cmdErr ++ BitVec.ofBool (snsBusy s) ++ BitVec.ofBool s.status.snsDone ++
    BitVec.ofBool s.status.irOvr ++ BitVec.ofBool s.status.irRdy

/-- IR_RESULT (R84, 41_decoder.md R159): `{BUTTON, COMMAND, ADDRESS, REASON, 0b00, KIND}`. -/
def irResultWord (r : IrResult) : Word :=
  r.button ++ r.command ++ r.address ++ reasonCode r.reason ++ 0#2 ++ irKindCode r.kind

/-- IR_LEN (R87). -/
def irLenWord (len : BitVec 16) : Word := 0#16 ++ len

/-- SNS_RESULT (R88): `zext_32({STATE, 0b00, NBITS, 0b0000, CODE})`. -/
def snsResultWord (st : SnsState) (nbits : BitVec 6) (code : SnsCode) : Word :=
  0#13 ++ snsStateCode st ++ 0#2 ++ nbits ++ 0#4 ++ snsCodeCode code

/-- SNS_DATA0 (R91): `{B3, B2, B1, B0}`. -/
def snsData0Word (p : Vector Byte 5) : Word := p[3] ++ p[2] ++ p[1] ++ p[0]

/-- SNS_DATA1 (R91): `zext_32(B4)`. -/
def snsData1Word (p : Vector Byte 5) : Word := 0#24 ++ p[4]

/-- The register word at an aligned offset: the map of R80. CMD and the reserved offsets read 0. -/
def registerWord (off : Byte) (s : State) : Word :=
  if off = 0x00#8 then ctrlWord s.ctrl
  else if off = 0x08#8 then statusWord s
  else if off = 0x0C#8 then irResultWord s.irResult
  else if off = 0x10#8 then s.irRaw
  else if off = 0x14#8 then irLenWord s.irLen
  else if off = 0x18#8 then snsResultWord s.snsState s.snsNbits s.snsCode
  else if off = 0x1C#8 then snsData0Word s.payload
  else if off = 0x20#8 then snsData1Word s.payload
  else 0#32

/-- The byte at `off + k` of a register word: little-endian (20_memory.md R63). -/
def busByte (v : Word) (k : Nat) : Byte := v.extractLsb' (8 * k) 8

/-! ## Host accesses by bus address (20_memory.md R60) -/

/-- The offset of a bus address in the window `BASE + 0x00` to `BASE + 0xFF`, if it lies there. -/
def windowOffset (c : Config) (addr : Nat) : Option Byte :=
  if c.base ≤ addr ∧ addr < c.base + 256 then some (BitVec.ofNat 8 (addr - c.base)) else none

/-- The request that an access of `size` bytes at a bus address makes: none outside the window (log entry 19). -/
def requestAt (c : Config) (addr size : Nat) (we : Bool) (wdata : Word) : Option BusRequest :=
  (windowOffset c addr).map fun off => ⟨off, we, wdata, size⟩

/-- `MemRead(off, 4)` at `BASE + off` (R60). -/
def memReadRequest (c : Config) (off : Byte) : Option BusRequest := requestAt c (c.base + off.toNat) 4 false 0#32

/-- `MemWrite(off, 4, v)` at `BASE + off` (R60). -/
def memWriteRequest (c : Config) (off : Byte) (v : Word) : Option BusRequest :=
  requestAt c (c.base + off.toNat) 4 true v

/-! ## Capture: pulse and conditions (40_capture.md R121) -/

/-- `pulse = (NOW - LAST) mod 2^W`. -/
def pulse (s : State) : Nat := (s.now % 2 ^ s.cfg.w + 2 ^ s.cfg.w - s.last % 2 ^ s.cfg.w) % 2 ^ s.cfg.w

/-- `LONG = (pulse > 15000)`. -/
def longGap (s : State) : Bool := decide (gapUs < pulse s)

/-- `DUE = TO_ARMED ∧ pulse ≥ 100000`. -/
def timeoutDue (s : State) : Bool := s.toArmed && decide (frameTimeoutUs ≤ pulse s)

/-- The 7-bit vector with the given bits, bit 0 first. -/
def vec7 (b0 b1 b2 b3 b4 b5 b6 : Bool) : BitVec 7 :=
  BitVec.ofBool b6 ++ BitVec.ofBool b5 ++ BitVec.ofBool b4 ++ BitVec.ofBool b3 ++ BitVec.ofBool b2 ++ BitVec.ofBool b1 ++
    BitVec.ofBool b0

/-- The capture condition vector cv (30_encoding.md R100): EN, EDGE, BV, LONG, ROOM, DUE, HAS. -/
def captureVector (irIn : Bool) (s : State) : BitVec 7 :=
  vec7 s.ctrl.irEn (irIn != s.prevIr) s.baseValid (longGap s) (decide (s.idx.toNat < s.cfg.cap)) (timeoutDue s)
    (decide (1 ≤ s.idx.toNat))

/-! ## Decoder: conditions, tolerance, table (41_decoder.md) -/

/-- The decoder condition vector dv (30_encoding.md R101): PEND, GT50, RPT. -/
def decoderVector (s : State) : BitVec 3 :=
  BitVec.ofBool (decide (0 < s.decLen.toNat) && decide (s.decLen.toNat < repeatLenMax)) ++
    BitVec.ofBool (decide (necLenMin < s.decLen.toNat)) ++ BitVec.ofBool s.decPend

/-- `match(m, t)`: `100 · |m - t| ≤ 30 · t` on exact integers (R151). -/
def toleranceMatch (m : Sample) (t : Nat) : Bool := decide (100 * absDiff m.toNat t ≤ tolPct * t)

/-- The bit value of a space (R157): 0 if it matches 560, 1 if it matches 1690, none if neither. -/
def spaceBit (m : Sample) : Option Bool :=
  if toleranceMatch m necZeroSpace then some false
  else if toleranceMatch m necOneSpace then some true
  else none

/-- BUTTON_MAP (R161): the table's entry for a command byte, UnknownOrError if it has none. -/
def buttonMap (c : Config) (command : Byte) : Byte :=
  match c.buttons.find? (fun e => e.1 == command) with
  | some e => e.2
  | none => unknownOrError

/-- What a decode publishes: the arguments of `publish` (R159). -/
structure Verdict where
  kind    : IrKind
  reason  : Reason
  address : Byte
  command : Byte
  raw     : Word
deriving DecidableEq, Repr

/-- An INVALID verdict: address and command are 0 (R159). -/
def invalid (reason : Reason) (raw : Word) : Verdict := ⟨.invalid, reason, 0#8, 0#8, raw⟩

/-- The loop of DEC_NEC (R156): `n` bit-pairs from pair `i` on, accumulated MSB-first into `w`; the first sample that does
not match ends it. -/
def necPairs (sample : Nat → Sample) : Nat → Nat → Word → Except Reason Word
  | 0, _, w => .ok w
  | n + 1, i, w =>
    if toleranceMatch (sample (2 * i + 2)) necBitMark then
      match spaceBit (sample (2 * i + 3)) with
      | some b => necPairs sample n (i + 1) ((w <<< 1) ||| (0#31 ++ BitVec.ofBool b))
      | none => .error .bitSpace
    else .error .bitMark

/-- The bytes of the NEC word (R158): `w[31:24]`, `w[23:16]`, `w[15:8]`, `w[7:0]`. -/
def necAddress (w : Word) : Byte := w.extractLsb' 24 8
/-- `w[23:16]` (R158). -/
def necAddressInv (w : Word) : Byte := w.extractLsb' 16 8
/-- `w[15:8]` (R158). -/
def necCommand (w : Word) : Byte := w.extractLsb' 8 8
/-- `w[7:0]` (R158). -/
def necCommandInv (w : Word) : Byte := w.extractLsb' 0 8

/-- The checks on the assembled word (R156, R158): the address check first. -/
def checkWord (w : Word) : Verdict :=
  if necAddress w ^^^ necAddressInv w ≠ 0xFF#8 then invalid .addrCheck w
  else if necCommand w ^^^ necCommandInv w ≠ 0xFF#8 then invalid .cmdCheck w
  else ⟨.data, .noReason, necAddress w, necCommand w, w⟩

/-- DEC_NEC's classification of the samples `s(0)..s(65)` (R156): the first check that fails decides. -/
def classifyNec (sample : Nat → Sample) : Verdict :=
  if toleranceMatch (sample 0) necStartMark then
    if toleranceMatch (sample 1) necStartSpace then
      match necPairs sample necBits 0 0#32 with
      | .ok w => checkWord w
      | .error r => invalid r 0#32
    else invalid .startSpace 0#32
  else invalid .startMark 0#32

/-! ## Sensor: elapsed count, bit value, conditions (42_sensor.md) -/

/-- `e = SNS_CNT + 1` (R182). -/
def elapsed (s : State) : Nat := s.snsCnt.toNat + 1

/-- The limit `L(s)` of a state (30_encoding.md R102); IDLE has none. -/
def snsLimit (c : Config) : SnsState → Nat
  | .idle => 0
  | .startLow => snsStartLowUs
  | .release => c.tRel
  | .respLow => snsRespLowTo
  | .respHigh => snsRespHighTo
  | .dataLow => snsDataStartTo
  | .bitHigh => snsBitStartTo
  | .bitMeasure => snsBitWidthTo

/-- The bit value of a high time (R203): 1 when it is over 40 ticks. -/
def bitValue (s : State) : Bool := decide (snsOneThreshold < elapsed s)

/-- `B[j] <- ((B[j] << 1) | b) mod 256`, the other bytes unchanged (R184). -/
def shiftPayload (p : Vector Byte 5) (j : Nat) (b : Bool) : Vector Byte 5 :=
  Vector.ofFn fun k : Fin 5 => if k.val = j then (p[k] <<< 1) ||| (0#7 ++ BitVec.ofBool b) else p[k]

/-- The payload after `shift(b)` at NBITS = `nbits` (R184): byte `nbits div 8` takes the bit. -/
def shiftedPayload (p : Vector Byte 5) (nbits : BitVec 6) (b : Bool) : Vector Byte 5 :=
  shiftPayload p (nbits.toNat / 8) b

/-- `B4 = (B0 + B1 + B2 + B3) mod 256` (R185). -/
def checksumHolds (p : Vector Byte 5) : Bool := p[4] == p[0] + p[1] + p[2] + p[3]

/-- The sensor condition vector sv (30_encoding.md R102): STATE, D, END, FINAL, CSUM. -/
def sensorVector (dqIn : Bool) (s : State) : BitVec 7 :=
  BitVec.ofBool (checksumHolds (shiftedPayload s.payload s.snsNbits (bitValue s))) ++
    BitVec.ofBool (decide (s.snsNbits.toNat + 1 = snsBits)) ++
    BitVec.ofBool (snsBusy s && decide (elapsed s = snsLimit s.cfg s.snsState)) ++
    BitVec.ofBool dqIn ++ snsStateCode s.snsState

end Sys2Proof.Machine
end

