-- ==== Sys2Proof/Machine/Flags.lean ====
section
/-! DEFINITION. The STATUS flags and the interrupt line (10_state.md R25, R48; 60_exceptions.md R255, R256). -/

namespace Sys2Proof.Machine

/-- The flags of a publication (41_decoder.md R159, R160): IR_OVR is set if IR_RDY was 1, then IR_RDY is set. -/
def flagPublish (f : Status) : Status := { f with irOvr := f.irOvr || f.irRdy, irRdy := true }

/-- The flag of a finished read (42_sensor.md R183). -/
def flagDone (f : Status) : Status := { f with snsDone := true }

/-- An accepted SNS_START clears SNS_DONE (43_host_bus.md R234). -/
def flagStarted (f : Status) : Status := { f with snsDone := false }

/-- A reserved command, or SNS_START while busy (60_exceptions.md R254). -/
def flagCmdErr (f : Status) : Status := { f with cmdErr := true }

/-- Write-1-to-clear (43_host_bus.md R236): bits 0, 1, 2 and 4; bit 3 and bits 31:5 are ignored. -/
def flagW1c (wdata : Word) (f : Status) : Status where
  irRdy := f.irRdy && !wdata.getLsbD 0
  irOvr := f.irOvr && !wdata.getLsbD 1
  snsDone := f.snsDone && !wdata.getLsbD 2
  cmdErr := f.cmdErr && !wdata.getLsbD 4

/-- `irq = (IR_RDY ∧ IRQ_IR_EN) ∨ (SNS_DONE ∧ IRQ_SNS_EN)` (10_state.md R48). -/
def irqLine (f : Status) (c : Ctrl) : Bool := (f.irRdy && c.irqIrEn) || (f.snsDone && c.irqSnsEn)

end Sys2Proof.Machine
end

