-- ==== Sys2Proof/Machine/Ops.lean ====
section
/-! DEFINITION. The named operations over the registers, the pulse memory and the inputs. IRSW takes no exception
(60_exceptions.md R250), so there is no exception entry and no return; what stands in for them are `finish`, `publish`, the
flags and `irqLine` (R258, R259). -/

namespace Sys2Proof.Machine

/-- The answer of a meaning. -/
abbrev Answer := Host.Outcome State Fault Refusal

/-- The next phase runs on the state the phase before it left; a fault or a refusal ends the tick. -/
def andThen (o : Answer) (f : State → Answer) : Answer :=
  match o with
  | .next s => f s
  | .fault r => .fault r
  | .refused r => .refused r

/-! ## The pulse memory (20_memory.md R66) -/

/-- The key of entry `i` of a bank. -/
def bufKey (bank : Bool) (i : Nat) : Nat := bank.toNat * 65536 + i

/-- The entry at a key; an unlisted one reads as the free value. -/
def memLookup (free : Nat → Sample) : Memory → Nat → Sample
  | [], k => free k
  | c :: m, k => if c.1 = k then c.2 else memLookup free m k

/-- The memory with the entry at a key set, in canonical form. -/
def memInsert : Memory → Nat → Sample → Memory
  | [], k, v => [(k, v)]
  | c :: m, k, v =>
    if k < c.1 then (k, v) :: c :: m
    else if k = c.1 then (k, v) :: m
    else c :: memInsert m k v

/-- `BufRead(bank, i)`. -/
def bufRead (s : State) (bank : Bool) (i : Nat) : Sample :=
  memLookup (Config.freeSample s.bufDraw) s.buf (bufKey bank i)

/-- `BufWrite(bank, i, v)`: an entry exists for every index below CAP (10_state.md R40). -/
def bufWrite (bank : Bool) (i : Nat) (v : Sample) (s : State) : Answer :=
  if i < s.cfg.cap then .next { s with buf := memInsert s.buf (bufKey bank i) v } else .fault .noSuchEntry

/-! ## Bus -/

/-- A read: the register's value goes to rdata and nothing else changes (43_host_bus.md R220). -/
def readInto (v : Word) (s : State) : State := { s with rdata := some v }

/-- Every write and an idle bus leave `rdata = None` (R220). -/
def noData (s : State) : State := { s with rdata := none }

/-- CTRL takes bits 2:0 of the word (R232). -/
def writeCtrl (wdata : Word) (s : State) : State :=
  { s with ctrl := ⟨wdata.getLsbD 0, wdata.getLsbD 1, wdata.getLsbD 2⟩ }

/-- SNS_START (R234): accepted when IDLE, else CMD_ERR. -/
def startSensor (s : State) : State :=
  if s.snsState = .idle then
    { s with
      snsState := .startLow
      snsNbits := 0#6
      snsCode := .noCode
      snsCnt := 0#15
      payload := Vector.replicate 5 0#8
      status := flagStarted s.status }
  else { s with status := flagCmdErr s.status }

/-! ## Capture (40_capture.md R122, R123) -/

/-- `edge_bookkeeping()` (R123). -/
def edgeBookkeeping (s : State) : State := { s with last := s.now, toArmed := true }

/-- `swap()` (R122): the three writes are one step. -/
def swap (s : State) : State := { s with decLen := s.idx, active := !s.active, decPend := true }

/-- `IDX <- 0; BASE_VALID <- 0; TO_ARMED <- 0` (R124, R126, R127). -/
def captureIdle (s : State) : State := { s with idx := 0#16, baseValid := false, toArmed := false }

/-- `IDX <- 0`. -/
def clearIdx (s : State) : State := { s with idx := 0#16 }

/-- The sampling that ends every capture phase, whatever IR_EN holds: `PREV_IR <- ir_in` (R120). -/
def sampleIr (irIn : Bool) (s : State) : State := { s with prevIr := irIn }

/-! ## Decoder (41_decoder.md R150, R159) -/

/-- `DEC_PEND <- 0` (R150). -/
def consumePend (s : State) : State := { s with decPend := false }

/-- `publish` (R159): all of IR_RESULT, IR_RAW and IR_LEN at once, and the flags. LEN is DEC_LEN. -/
def publish (v : Verdict) (s : State) : State :=
  { s with
    irResult :=
      { kind := v.kind
        reason := v.reason
        address := v.address
        command := v.command
        button := if v.kind = .data then buttonMap s.cfg v.command else unknownOrError }
    irRaw := v.raw
    irLen := s.decLen
    status := flagPublish s.status }

/-- The samples of the decode bank, bank `1 - ACTIVE` (R150). -/
def decodeSample (s : State) (i : Nat) : Sample := bufRead s (!s.active) i

/-! ## Sensor (42_sensor.md R181–R184) -/

/-- `dq_oe` is 1 in a tick iff the sensor phase began in START_LOW (R181). -/
def driveLine (s : State) : State := { s with dqOe := s.snsState == .startLow }

/-- A micro-operation that stays in its state: `SNS_CNT <- e` (R182). -/
def stay (s : State) : State := { s with snsCnt := BitVec.ofNat 15 (elapsed s) }

/-- A micro-operation that moves to another state: `SNS_CNT <- 0` (R182). -/
def moveTo (st : SnsState) (s : State) : State := { s with snsState := st, snsCnt := 0#15 }

/-- `finish(code)` (R183). -/
def finish (code : SnsCode) (s : State) : State :=
  { s with snsCode := code, snsState := .idle, snsCnt := 0#15, status := flagDone s.status }

/-- `shift(b)` (R184). -/
def shiftBit (b : Bool) (s : State) : State :=
  { s with payload := shiftedPayload s.payload s.snsNbits b, snsNbits := s.snsNbits + 1#6 }

/-! ## Tick: inputs, reset, end phase -/

/-- The inputs of this tick: the first listed, or a free value (00_scope.md R9; log entry 2). -/
def tickInput (s : State) : TickInput :=
  match s.inputs with
  | [] => Config.freeInput s.draws
  | i :: _ => i

/-- The state with this tick's inputs taken. -/
def takeInput (s : State) : State :=
  match s.inputs with
  | [] => { s with draws := s.draws + 1 }
  | _ :: rest => { s with inputs := rest }

/-- A reset tick (70_reset_and_hazards.md R280): every element at its reset value, BUF drawn anew. The instance and the
inputs to come are not its own. -/
def resetTick (s : State) : State := State.afterReset s.cfg s.inputs s.draws

/-- The end phase (10_state.md R48): NOW is incremented, irq is formed, dq_oe stays. -/
def endPhase (s : State) : State :=
  { s with now := (s.now + 1) % 2 ^ s.cfg.w, irq := irqLine s.status s.ctrl }

end Sys2Proof.Machine
end

