-- ==== Sys2Proof/Machine/Bus.lean ====
section
/-! DEFINITION. The 19 bus operations (43_host_bus.md R221–R239). -/

namespace Sys2Proof.Machine

/-- BUS_IDLE (R221). -/
def execBusIdle (s : State) : Answer := .next (noData s)

/-- RD_CTRL (R222). -/
def execRdCtrl (s : State) : Answer := .next (readInto (ctrlWord s.ctrl) s)

/-- RD_CMD (R223): CMD holds no state. -/
def execRdCmd (s : State) : Answer := .next (readInto (0#32) s)

/-- RD_STATUS (R224). -/
def execRdStatus (s : State) : Answer := .next (readInto (statusWord s) s)

/-- RD_IR_RESULT (R225). -/
def execRdIrResult (s : State) : Answer := .next (readInto (irResultWord s.irResult) s)

/-- RD_IR_RAW (R226). -/
def execRdIrRaw (s : State) : Answer := .next (readInto (s.irRaw) s)

/-- RD_IR_LEN (R227). -/
def execRdIrLen (s : State) : Answer := .next (readInto (irLenWord s.irLen) s)

/-- RD_SNS_RESULT (R228). -/
def execRdSnsResult (s : State) : Answer := .next (readInto (snsResultWord s.snsState s.snsNbits s.snsCode) s)

/-- RD_SNS_DATA0 (R229). -/
def execRdSnsData0 (s : State) : Answer := .next (readInto (snsData0Word s.payload) s)

/-- RD_SNS_DATA1 (R230). -/
def execRdSnsData1 (s : State) : Answer := .next (readInto (snsData1Word s.payload) s)

/-- RD_RSVD (R231): no reserved offset is an alias of a register. -/
def execRdRsvd (_off : Byte) (s : State) : Answer := .next (readInto 0#32 s)

/-- WR_CTRL (R232). -/
def execWrCtrl (wdata : Word) (s : State) : Answer := .next (writeCtrl wdata (noData s))

/-- WR_CMD_NOP (R233). -/
def execWrCmdNop (_wdata : Word) (s : State) : Answer := .next (noData s)

/-- WR_CMD_SNS_START (R234); bits 31:4 of the word are ignored (30_encoding.md R82). -/
def execWrCmdSnsStart (_wdata : Word) (s : State) : Answer := .next (startSensor (noData s))

/-- WR_CMD_RSVD (R235). -/
def execWrCmdRsvd (_wdata : Word) (s : State) : Answer := .next { noData s with status := flagCmdErr s.status }

/-- WR_STATUS (R236). -/
def execWrStatus (wdata : Word) (s : State) : Answer := .next { noData s with status := flagW1c wdata s.status }

/-- WR_RO (R237). -/
def execWrRo (_off : Byte) (_wdata : Word) (s : State) : Answer := .next (noData s)

/-- WR_RSVD (R238). -/
def execWrRsvd (_off : Byte) (_wdata : Word) (s : State) : Answer := .next (noData s)

/-- BUS_MISALIGNED (R239): "The model refuses the step: it has no successor state". -/
def execBusMisaligned (_off : Byte) (_we : Bool) (_wdata : Word) (_s : State) : Answer := .refused .outsideContract

end Sys2Proof.Machine
end

