-- ==== Sys2Proof/Machine/Capture.lean ====
section
/-! DEFINITION. The nine capture micro-operations (40_capture.md R124–R132). `pulse` is the value at the start of the phase;
the sampling `PREV_IR <- ir_in` that follows every one of them is the capture phase's (R120; Machine/Phases.lean). -/

namespace Sys2Proof.Machine

/-- CAP_OFF (R124). -/
def execCapOff (s : State) : Answer := .next (captureIdle s)

/-- CAP_QUIET (R125). -/
def execCapQuiet (s : State) : Answer := .next s

/-- CAP_TIMEOUT_DELIVER (R126). -/
def execCapTimeoutDeliver (s : State) : Answer := .next (captureIdle (swap s))

/-- CAP_TIMEOUT_EMPTY (R127). -/
def execCapTimeoutEmpty (s : State) : Answer := .next (captureIdle s)

/-- CAP_BASELINE (R128). -/
def execCapBaseline (s : State) : Answer := .next { edgeBookkeeping s with baseValid := true }

/-- CAP_BOUNDARY_DELIVER (R129). -/
def execCapBoundaryDeliver (s : State) : Answer := .next (clearIdx (swap (edgeBookkeeping s)))

/-- CAP_BOUNDARY_EMPTY (R130). -/
def execCapBoundaryEmpty (s : State) : Answer := .next (clearIdx (edgeBookkeeping s))

/-- CAP_APPEND (R131): `BufWrite(ACTIVE, IDX, pulse[15:0]); IDX <- IDX + 1`. -/
def execCapAppend (s : State) : Answer :=
  andThen (bufWrite s.active s.idx.toNat (BitVec.ofNat 16 (pulse s)) (edgeBookkeeping s)) fun t =>
    .next { t with idx := t.idx + 1#16 }

/-- CAP_DISCARD (R132). -/
def execCapDiscard (s : State) : Answer := .next { clearIdx (edgeBookkeeping s) with baseValid := false }

end Sys2Proof.Machine
end

