-- ==== Sys2Proof/Machine/Decoder.lean ====
section
/-! DEFINITION. The four decoder micro-operations (41_decoder.md R153–R156). -/

namespace Sys2Proof.Machine

/-- DEC_IDLE (R153). -/
def execDecIdle (s : State) : Answer := .next s

/-- DEC_REPEAT (R154). BUF is not read. -/
def execDecRepeat (s : State) : Answer :=
  .next (publish ⟨.repeatCode, .noReason, 0#8, 0#8, 0#32⟩ (consumePend s))

/-- DEC_BADLEN (R155). BUF is not read. -/
def execDecBadlen (s : State) : Answer := .next (publish (invalid .length 0#32) (consumePend s))

/-- DEC_NEC (R156): the samples 0..65 of the decode bank, whatever DEC_LEN is (R162). -/
def execDecNec (s : State) : Answer := .next (publish (classifyNec (decodeSample s)) (consumePend s))

end Sys2Proof.Machine
end

