-- ==== Sys2Proof/Machine/Sensor.lean ====
section
/-! DEFINITION. The 22 sensor micro-operations (42_sensor.md R186–R207). Each sets dq_oe as R181 says. -/

namespace Sys2Proof.Machine

/-- SNS_IDLE (R186): only dq_oe, which is 0. -/
def execSnsIdle (s : State) : Answer := .next (driveLine s)

/-- SNS_START_LOW_CONT (R187). -/
def execSnsStartLowCont (s : State) : Answer := .next (stay (driveLine s))

/-- SNS_START_LOW_END (R188). -/
def execSnsStartLowEnd (s : State) : Answer := .next (moveTo .release (driveLine s))

/-- SNS_RELEASE_CONT (R189). -/
def execSnsReleaseCont (s : State) : Answer := .next (stay (driveLine s))

/-- SNS_RELEASE_END (R190). -/
def execSnsReleaseEnd (s : State) : Answer := .next (moveTo .respLow (driveLine s))

/-- SNS_RESP_LOW_OK (R191). -/
def execSnsRespLowOk (s : State) : Answer := .next (moveTo .respHigh (driveLine s))

/-- SNS_RESP_LOW_WAIT (R192). -/
def execSnsRespLowWait (s : State) : Answer := .next (stay (driveLine s))

/-- SNS_RESP_LOW_FAIL (R193). -/
def execSnsRespLowFail (s : State) : Answer := .next (finish .responseLowTimeout (driveLine s))

/-- SNS_RESP_HIGH_OK (R194). -/
def execSnsRespHighOk (s : State) : Answer := .next (moveTo .dataLow (driveLine s))

/-- SNS_RESP_HIGH_WAIT (R195). -/
def execSnsRespHighWait (s : State) : Answer := .next (stay (driveLine s))

/-- SNS_RESP_HIGH_FAIL (R196). -/
def execSnsRespHighFail (s : State) : Answer := .next (finish .responseHighTimeout (driveLine s))

/-- SNS_DATA_LOW_OK (R197). -/
def execSnsDataLowOk (s : State) : Answer := .next (moveTo .bitHigh (driveLine s))

/-- SNS_DATA_LOW_WAIT (R198). -/
def execSnsDataLowWait (s : State) : Answer := .next (stay (driveLine s))

/-- SNS_DATA_LOW_FAIL (R199). -/
def execSnsDataLowFail (s : State) : Answer := .next (finish .dataStartTimeout (driveLine s))

/-- SNS_BIT_HIGH_OK (R200). -/
def execSnsBitHighOk (s : State) : Answer := .next (moveTo .bitMeasure (driveLine s))

/-- SNS_BIT_HIGH_WAIT (R201). -/
def execSnsBitHighWait (s : State) : Answer := .next (stay (driveLine s))

/-- SNS_BIT_HIGH_FAIL (R202). -/
def execSnsBitHighFail (s : State) : Answer := .next (finish .bitStartTimeout (driveLine s))

/-- SNS_MEASURE_BIT (R203): bit 1 iff the high lasted over 40 ticks. -/
def execSnsMeasureBit (s : State) : Answer := .next (moveTo .bitHigh (shiftBit (bitValue s) (driveLine s)))

/-- SNS_MEASURE_LAST_OK (R204). -/
def execSnsMeasureLastOk (s : State) : Answer := .next (finish .ok (shiftBit (bitValue s) (driveLine s)))

/-- SNS_MEASURE_LAST_BAD (R205). -/
def execSnsMeasureLastBad (s : State) : Answer := .next (finish .checksumError (shiftBit (bitValue s) (driveLine s)))

/-- SNS_MEASURE_WAIT (R206). -/
def execSnsMeasureWait (s : State) : Answer := .next (stay (driveLine s))

/-- SNS_MEASURE_FAIL (R207): the bit is not shifted. -/
def execSnsMeasureFail (s : State) : Answer := .next (finish .bitWidthTimeout (driveLine s))

end Sys2Proof.Machine
end

