-- ==== Sys2Proof/Machine/Dispatch.lean ====
section
/-! DEFINITION. exec: one arm per operation of spec/opcode_table.json, each one call of its meaning. -/

namespace Sys2Proof.Machine

def exec (i : Instr) (s : State) : Host.Outcome State Fault Refusal :=
  match i with
  | .capOff => Sys2Proof.Machine.execCapOff s
  | .capQuiet => Sys2Proof.Machine.execCapQuiet s
  | .capTimeoutDeliver => Sys2Proof.Machine.execCapTimeoutDeliver s
  | .capTimeoutEmpty => Sys2Proof.Machine.execCapTimeoutEmpty s
  | .capBaseline => Sys2Proof.Machine.execCapBaseline s
  | .capBoundaryDeliver => Sys2Proof.Machine.execCapBoundaryDeliver s
  | .capBoundaryEmpty => Sys2Proof.Machine.execCapBoundaryEmpty s
  | .capAppend => Sys2Proof.Machine.execCapAppend s
  | .capDiscard => Sys2Proof.Machine.execCapDiscard s
  | .decIdle => Sys2Proof.Machine.execDecIdle s
  | .decNec => Sys2Proof.Machine.execDecNec s
  | .decRepeat => Sys2Proof.Machine.execDecRepeat s
  | .decBadlen => Sys2Proof.Machine.execDecBadlen s
  | .snsIdle => Sys2Proof.Machine.execSnsIdle s
  | .snsStartLowCont => Sys2Proof.Machine.execSnsStartLowCont s
  | .snsStartLowEnd => Sys2Proof.Machine.execSnsStartLowEnd s
  | .snsReleaseCont => Sys2Proof.Machine.execSnsReleaseCont s
  | .snsReleaseEnd => Sys2Proof.Machine.execSnsReleaseEnd s
  | .snsRespLowOk => Sys2Proof.Machine.execSnsRespLowOk s
  | .snsRespLowWait => Sys2Proof.Machine.execSnsRespLowWait s
  | .snsRespLowFail => Sys2Proof.Machine.execSnsRespLowFail s
  | .snsRespHighOk => Sys2Proof.Machine.execSnsRespHighOk s
  | .snsRespHighWait => Sys2Proof.Machine.execSnsRespHighWait s
  | .snsRespHighFail => Sys2Proof.Machine.execSnsRespHighFail s
  | .snsDataLowOk => Sys2Proof.Machine.execSnsDataLowOk s
  | .snsDataLowWait => Sys2Proof.Machine.execSnsDataLowWait s
  | .snsDataLowFail => Sys2Proof.Machine.execSnsDataLowFail s
  | .snsBitHighOk => Sys2Proof.Machine.execSnsBitHighOk s
  | .snsBitHighWait => Sys2Proof.Machine.execSnsBitHighWait s
  | .snsBitHighFail => Sys2Proof.Machine.execSnsBitHighFail s
  | .snsMeasureBit => Sys2Proof.Machine.execSnsMeasureBit s
  | .snsMeasureLastOk => Sys2Proof.Machine.execSnsMeasureLastOk s
  | .snsMeasureLastBad => Sys2Proof.Machine.execSnsMeasureLastBad s
  | .snsMeasureWait => Sys2Proof.Machine.execSnsMeasureWait s
  | .snsMeasureFail => Sys2Proof.Machine.execSnsMeasureFail s
  | .busIdle => Sys2Proof.Machine.execBusIdle s
  | .rdCtrl => Sys2Proof.Machine.execRdCtrl s
  | .rdCmd => Sys2Proof.Machine.execRdCmd s
  | .rdStatus => Sys2Proof.Machine.execRdStatus s
  | .rdIrResult => Sys2Proof.Machine.execRdIrResult s
  | .rdIrRaw => Sys2Proof.Machine.execRdIrRaw s
  | .rdIrLen => Sys2Proof.Machine.execRdIrLen s
  | .rdSnsResult => Sys2Proof.Machine.execRdSnsResult s
  | .rdSnsData0 => Sys2Proof.Machine.execRdSnsData0 s
  | .rdSnsData1 => Sys2Proof.Machine.execRdSnsData1 s
  | .rdRsvd off => Sys2Proof.Machine.execRdRsvd off s
  | .wrCtrl wdata => Sys2Proof.Machine.execWrCtrl wdata s
  | .wrCmdNop wdata => Sys2Proof.Machine.execWrCmdNop wdata s
  | .wrCmdSnsStart wdata => Sys2Proof.Machine.execWrCmdSnsStart wdata s
  | .wrCmdRsvd wdata => Sys2Proof.Machine.execWrCmdRsvd wdata s
  | .wrStatus wdata => Sys2Proof.Machine.execWrStatus wdata s
  | .wrRo off wdata => Sys2Proof.Machine.execWrRo off wdata s
  | .wrRsvd off wdata => Sys2Proof.Machine.execWrRsvd off wdata s
  | .busMisaligned off we wdata => Sys2Proof.Machine.execBusMisaligned off we wdata s

end Sys2Proof.Machine
end

