-- ==== Sys2Proof/Machine/Phases.lean ====
section
/-! DEFINITION. A tick: the phases of 00_scope.md R10, and how a chosen operation is made the next one to run (for the
host's withFetchWord). -/

namespace Sys2Proof.Machine

/-- A unit performs the operation its word selects. Every word selects one (30_encoding.md R105). -/
def runWord (u : UnitWord) (s : State) : Answer :=
  match decode u with
  | .ok i => exec i s
  | .error _ => .refused .noOperation

/-- Phase 1 (43_host_bus.md R220). -/
def busPhase (bus : Option BusRequest) (s : State) : Answer := runWord (busWordOf bus) s

/-- Phase 2 (41_decoder.md R150). -/
def decoderPhase (s : State) : Answer := runWord (.decVec (decoderVector s)) s

/-- Phase 3 (40_capture.md R120): EDGE is computed before the micro-operation, PREV_IR is written after it. -/
def capturePhase (irIn : Bool) (s : State) : Answer :=
  andThen (runWord (.capVec (captureVector irIn s)) s) fun t => .next (sampleIr irIn t)

/-- Phase 4 (42_sensor.md R180). -/
def sensorPhase (dqIn : Bool) (s : State) : Answer := runWord (.snsVec (sensorVector dqIn s)) s

/-- A tick with the given inputs: a reset tick runs no phase (70_reset_and_hazards.md R280), any other runs the five phases
in the order of 00_scope.md R10. -/
def tick (inp : TickInput) (s : State) : Answer :=
  if inp.rst then .next (resetTick s)
  else
    andThen (busPhase inp.bus s) fun s1 =>
    andThen (decoderPhase s1) fun s2 =>
    andThen (capturePhase inp.irIn s2) fun s3 =>
    andThen (sensorPhase inp.dqIn s3) fun s4 =>
    .next (endPhase s4)

/-! ## Making an operation the next to run (host interface; log entry 8) -/

/-- A quiet tick: no reset, no edge, the data line high, no request. -/
def quietInput (s : State) : TickInput := ⟨false, s.prevIr, true, none⟩

/-- The state whose next tick has the given inputs, in place of those it would have had. -/
def withInput (inp : TickInput) (s : State) : State := { s with inputs := inp :: s.inputs.drop 1 }

/-- NOW moved back by `d` ticks, mod 2^W: the LAST that makes the pulse `d`. -/
def ticksAgo (s : State) (d : Nat) : Nat := (s.now + 2 ^ s.cfg.w - d) % 2 ^ s.cfg.w

/-- The reader set to a state with a count, and the line at a level, in the next tick. -/
def atSensor (st : SnsState) (cnt : Nat) (dqIn : Bool) (s : State) : State :=
  withInput { quietInput s with dqIn := dqIn } { s with snsState := st, snsCnt := BitVec.ofNat 15 cnt }

/-- The capture unit enabled, with an edge or none in the next tick, and the elements its vector is computed from. -/
def atCapture (edge bv armed : Bool) (d idx : Nat) (s : State) : State :=
  withInput { quietInput s with irIn := if edge then !s.prevIr else s.prevIr }
    { s with
      ctrl := { s.ctrl with irEn := true }
      baseValid := bv
      toArmed := armed
      last := ticksAgo s d
      idx := BitVec.ofNat 16 idx }

/-- A decode pending (or none), of a burst of the given length. -/
def atDecoder (pend : Bool) (len : Nat) (s : State) : State :=
  withInput (quietInput s) { s with decPend := pend, decLen := BitVec.ofNat 16 len }

/-- A request in the next tick. -/
def atBus (off : Byte) (we : Bool) (wdata : Word) (s : State) : State :=
  withInput { quietInput s with bus := some ⟨off, we, wdata, 4⟩ } s

/-- `s`, with what selects the operation set so that it runs in its unit's phase of the next tick. -/
def prepare (i : Instr) (s : State) : State :=
  match i with
  | .capOff => withInput (quietInput s) { s with ctrl := { s.ctrl with irEn := false } }
  | .capQuiet => atCapture false true true 1 0 s
  | .capTimeoutDeliver => atCapture false true true frameTimeoutUs 1 s
  | .capTimeoutEmpty => atCapture false true true frameTimeoutUs 0 s
  | .capBaseline => atCapture true false false 0 0 s
  | .capBoundaryDeliver => atCapture true true true (gapUs + 1) 1 s
  | .capBoundaryEmpty => atCapture true true true (gapUs + 1) 0 s
  | .capAppend => atCapture true true true 1 0 s
  | .capDiscard => atCapture true true true 1 s.cfg.cap s
  | .decIdle => atDecoder false s.decLen.toNat s
  | .decRepeat => atDecoder true 1 s
  | .decBadlen => atDecoder true repeatLenMax s
  | .decNec => atDecoder true (necLenMin + 1) s
  | .snsIdle => atSensor .idle 0 true s
  | .snsStartLowCont => atSensor .startLow 0 true s
  | .snsStartLowEnd => atSensor .startLow (snsStartLowUs - 1) true s
  | .snsReleaseCont => atSensor .release 0 true s
  | .snsReleaseEnd => atSensor .release (s.cfg.tRel - 1) true s
  | .snsRespLowOk => atSensor .respLow 0 false s
  | .snsRespLowWait => atSensor .respLow 0 true s
  | .snsRespLowFail => atSensor .respLow (snsRespLowTo - 1) true s
  | .snsRespHighOk => atSensor .respHigh 0 true s
  | .snsRespHighWait => atSensor .respHigh 0 false s
  | .snsRespHighFail => atSensor .respHigh (snsRespHighTo - 1) false s
  | .snsDataLowOk => atSensor .dataLow 0 false s
  | .snsDataLowWait => atSensor .dataLow 0 true s
  | .snsDataLowFail => atSensor .dataLow (snsDataStartTo - 1) true s
  | .snsBitHighOk => atSensor .bitHigh 0 true s
  | .snsBitHighWait => atSensor .bitHigh 0 false s
  | .snsBitHighFail => atSensor .bitHigh (snsBitStartTo - 1) false s
  | .snsMeasureBit => atSensor .bitMeasure 0 false { s with snsNbits := 0#6 }
  | .snsMeasureLastOk =>
    atSensor .bitMeasure 0 false { s with snsNbits := 39#6, payload := Vector.replicate 5 0#8 }
  | .snsMeasureLastBad =>
    atSensor .bitMeasure snsOneThreshold false { s with snsNbits := 39#6, payload := Vector.replicate 5 0#8 }
  | .snsMeasureWait => atSensor .bitMeasure 0 true s
  | .snsMeasureFail => atSensor .bitMeasure (snsBitWidthTo - 1) true s
  | .busIdle => withInput (quietInput s) s
  | .rdCtrl => atBus 0x00#8 false 0#32 s
  | .rdCmd => atBus 0x04#8 false 0#32 s
  | .rdStatus => atBus 0x08#8 false 0#32 s
  | .rdIrResult => atBus 0x0C#8 false 0#32 s
  | .rdIrRaw => atBus 0x10#8 false 0#32 s
  | .rdIrLen => atBus 0x14#8 false 0#32 s
  | .rdSnsResult => atBus 0x18#8 false 0#32 s
  | .rdSnsData0 => atBus 0x1C#8 false 0#32 s
  | .rdSnsData1 => atBus 0x20#8 false 0#32 s
  | .rdRsvd off => atBus off false 0#32 s
  | .wrCtrl wdata => atBus 0x00#8 true wdata s
  | .wrCmdNop wdata => atBus 0x04#8 true wdata s
  | .wrCmdSnsStart wdata => atBus 0x04#8 true wdata s
  | .wrCmdRsvd wdata => atBus 0x04#8 true wdata s
  | .wrStatus wdata => atBus 0x08#8 true wdata s
  | .wrRo off wdata => atBus off true wdata s
  | .wrRsvd off wdata => atBus off true wdata s
  | .busMisaligned off we wdata => atBus off we wdata s

end Sys2Proof.Machine
end

