-- ==== Sys2Proof/Machine/Step.lean ====
section
/-! DEFINITION. The step: one tick (00_scope.md R9). -/

namespace Sys2Proof.Machine

/-- One tick with the tick's inputs (R9: "Every tick is one step"). -/
def step (s : State) : Host.Outcome State Fault Refusal := tick (tickInput s) (takeInput s)

/-- `s`, with what makes its next tick run the operation of a table word (log entries 8 and 9). A word that selects nothing
leaves `s` as it is. -/
def State.withFetchWord (s : State) (nbits w : Nat) : State :=
  match decodeTableWord nbits w with
  | some i => prepare i s
  | none => s

end Sys2Proof.Machine
end

