-- ==== Sys2Proof/Machine/HostView.lean ====
section
/-! DEFINITION. The host's exact reading of the payload (42_sensor.md R212) and when it may use it (R213). IRSW itself
outputs only the raw bytes; no operation uses this file. -/

namespace Sys2Proof.Machine

/-- `humidity = B0 + B1 ÷ 10`, in % (R212), exact. -/
def humidity (p : Vector Byte 5) : Rat := (p[0].toNat : Rat) + (p[1].toNat : Rat) / 10

/-- `temperature_C = B2 + B3 ÷ 10` (R212), exact. -/
def temperatureC (p : Vector Byte 5) : Rat := (p[2].toNat : Rat) + (p[3].toNat : Rat) / 10

/-- `temperature_F = temperature_C × 9 ÷ 5 + 32` (R212), exact. -/
def temperatureF (p : Vector Byte 5) : Rat := temperatureC p * 9 / 5 + 32

/-- SNS_DATA0 and SNS_DATA1 hold a valid reading (R213). -/
def readingValid (s : State) : Bool := s.snsState == .idle && s.snsCode == .ok

end Sys2Proof.Machine
end

