-- ==== Sys2Proof/Safety.lean ====
section
/-! DEFINITION. What a safe run is: the host's contract, the invariants of the units, and which states agree on one path. -/

namespace Sys2Proof.Machine

/-! ## The host's contract (70_reset_and_hazards.md, sections 2 and 3) -/

/-- A request within the contract: 32 bits wide and aligned (20_memory.md R61, R300). -/
def requestInContract : Option BusRequest → Bool
  | none => true
  | some r => r.size == 4 && r.off.toNat % 4 == 0

/-- A tick the host may ask for: a reset tick drops its request (R280). -/
def inputInContract (i : TickInput) : Bool := i.rst || requestInContract i.bus

/-- The request is SNS_START (30_encoding.md R82). -/
def isSnsStart : Option BusRequest → Bool
  | none => false
  | some r => r.size == 4 && r.off == 0x04#8 && r.we && cmdOp r.wdata == 1

/-- The request is a write of STATUS; the word it writes, 0 if it is none (a W1C of nothing). -/
def w1cMask : Option BusRequest → Word
  | none => 0#32
  | some r => if r.size = 4 ∧ r.off = 0x08#8 ∧ r.we = true then r.wdata else 0#32

/-- The request writes a reserved CMD.OP (R82). -/
def isReservedCommand : Option BusRequest → Bool
  | none => false
  | some r => r.size == 4 && r.off == 0x04#8 && r.we && decide (2 ≤ cmdOp r.wdata)

/-- 3 s in ticks: the host's minimum interval between two SNS_START (R290). -/
def minReadInterval : Nat := 3000000

/-- The host keeps the minimum interval, measured from the last attempt (R290). `since` is the number of ticks since it. -/
def keepsReadInterval : Nat → List TickInput → Bool
  | _, [] => true
  | since, i :: rest =>
    if isSnsStart i.bus then decide (minReadInterval ≤ since) && keepsReadInterval 1 rest
    else keepsReadInterval (since + 1) rest

/-- A run of the listed inputs that keeps the contract. -/
def contractKept (inputs : List TickInput) : Bool := inputs.all inputInContract

/-! ## Invariants -/

/-- The capture unit's invariant: 10_state.md R43 items 1, 2, 3, 5 and the state's part of item 4, with what makes them
inductive (the timer's range and the counters' ranges). -/
structure CaptureInv (s : State) : Prop where
  idx_le_cap : s.idx.toNat ≤ s.cfg.cap
  disabled   : s.ctrl.irEn = false → s.idx = 0#16 ∧ s.baseValid = false ∧ s.toArmed = false
  baseline   : s.baseValid = true → s.toArmed = true ∧ pulse s ≤ 100000
  pending    : s.decPend = true → s.idx = 0#16 ∧ 1 ≤ s.decLen.toNat
  samples    : 1 ≤ s.idx.toNat → s.baseValid = true
  armed      : s.toArmed = true → 1 ≤ pulse s ∧ pulse s ≤ 100000
  counters   : s.now < 2 ^ s.cfg.w ∧ s.last < 2 ^ s.cfg.w
  length     : s.decLen.toNat ≤ s.cfg.cap

/-- Every listed entry of BUF is a stored sample, 1 to 15000 (40_capture.md R136). -/
def SamplesInRange (s : State) : Prop := ∀ c ∈ s.buf, 1 ≤ c.2.toNat ∧ c.2.toNat ≤ 15000

/-- The reader's invariant: NBITS and SNS_CNT in range (10_state.md R29, R41), CODE NONE during a read (43_host_bus.md R228),
what OK and ChecksumError say of the bytes (R204, R205), and that the
data registers are zero above the bits received (42_sensor.md R213). -/
structure SensorInv (s : State) : Prop where
  nbits_le  : s.snsNbits.toNat ≤ 40
  early     : s.snsState = .startLow ∨ s.snsState = .release ∨ s.snsState = .respLow ∨ s.snsState = .respHigh ∨
                s.snsState = .dataLow → s.snsNbits = 0#6
  receiving : s.snsState = .bitHigh ∨ s.snsState = .bitMeasure → s.snsNbits.toNat < 40
  idleCount : s.snsState = .idle → s.snsCnt = 0#15
  busyCount : s.snsState ≠ .idle → s.snsCnt.toNat < snsLimit s.cfg s.snsState
  busyCode  : s.snsState ≠ .idle → s.snsCode = .noCode
  okBits    : s.snsCode = .ok → s.snsNbits = 40#6 ∧ s.payload[4] = s.payload[0] + s.payload[1] + s.payload[2] + s.payload[3]
  badBits   : s.snsCode = .checksumError →
                s.snsNbits = 40#6 ∧ s.payload[4] ≠ s.payload[0] + s.payload[1] + s.payload[2] + s.payload[3]
  received  : ∀ (j : Nat) (h : j < 5), (s.payload[j]).toNat < 2 ^ (s.snsNbits.toNat - 8 * j)

/-- What IR_RESULT, IR_RAW and IR_LEN can hold together (30_encoding.md R84–R87). Before the first publication all are 0. -/
structure ResultInv (s : State) : Prop where
  noResult : s.irResult.kind = .noResult →
    s.irResult = ⟨.noResult, .noReason, 0#8, 0#8, 0#8⟩ ∧ s.irRaw = 0#32 ∧ s.irLen = 0#16
  data : s.irResult.kind = .data →
    s.irResult.reason = .noReason ∧ s.irResult.button = buttonMap s.cfg s.irResult.command ∧
    s.irRaw = s.irResult.address ++ ~~~s.irResult.address ++ s.irResult.command ++ ~~~s.irResult.command ∧
    50 < s.irLen.toNat
  repeatCode : s.irResult.kind = .repeatCode →
    s.irResult = ⟨.repeatCode, .noReason, 0#8, 0#8, 0xFF#8⟩ ∧ s.irRaw = 0#32 ∧ 0 < s.irLen.toNat ∧ s.irLen.toNat < 10
  invalid : s.irResult.kind = .invalid →
    s.irResult.reason ≠ .noReason ∧ s.irResult.address = 0#8 ∧ s.irResult.command = 0#8 ∧ s.irResult.button = 0xFF#8 ∧
    (s.irResult.reason ≠ .addrCheck ∧ s.irResult.reason ≠ .cmdCheck → s.irRaw = 0#32) ∧
    (s.irResult.reason = .length ↔ s.irLen.toNat = 0 ∨ (10 ≤ s.irLen.toNat ∧ s.irLen.toNat ≤ 50))

/-! ## The two paths (60_exceptions.md R257: they share no state apart from STATUS and irq) -/

/-- The states agree on everything the IR path holds. -/
structure SameIr (s t : State) : Prop where
  cfg       : t.cfg = s.cfg
  ctrl      : t.ctrl = s.ctrl
  irRdy     : t.status.irRdy = s.status.irRdy
  irOvr     : t.status.irOvr = s.status.irOvr
  irResult  : t.irResult = s.irResult
  irRaw     : t.irRaw = s.irRaw
  irLen     : t.irLen = s.irLen
  now       : t.now = s.now
  prevIr    : t.prevIr = s.prevIr
  last      : t.last = s.last
  baseValid : t.baseValid = s.baseValid
  toArmed   : t.toArmed = s.toArmed
  idx       : t.idx = s.idx
  active    : t.active = s.active
  decLen    : t.decLen = s.decLen
  decPend   : t.decPend = s.decPend
  buf       : t.buf = s.buf
  bufDraw   : t.bufDraw = s.bufDraw

/-- The states agree on everything the sensor path holds. -/
structure SameSensor (s t : State) : Prop where
  cfg      : t.cfg = s.cfg
  snsDone  : t.status.snsDone = s.status.snsDone
  cmdErr   : t.status.cmdErr = s.status.cmdErr
  snsCode  : t.snsCode = s.snsCode
  snsNbits : t.snsNbits = s.snsNbits
  snsState : t.snsState = s.snsState
  payload  : t.payload = s.payload
  snsCnt   : t.snsCnt = s.snsCnt
  dqOe     : t.dqOe = s.dqOe

end Sys2Proof.Machine
end

