-- ==== Sys2Proof/Certificates/Slice0/Obligations.lean ====
section
/-! DEFINITION. The statements for the provers. `exec i s = .next { s with … }` states a result and its frame at once: every
field of State that the update does not name is unchanged, BUF included. -/

open Sys2Proof Sys2Proof.Machine

/-! ## Encodings (30_encoding.md) -/

/-- Words written out bit by bit from 30_encoding.md R100–R103 and 95_test_vectors.md, section 5. -/
def Obligations.WordsWrittenOutDecode : Prop :=
  decode (.capVec 0b0010111#7) = .ok .capAppend ∧
  decode (.capVec 0b1100001#7) = .ok .capTimeoutDeliver ∧
  decode (.decVec 0b101#3) = .ok .decRepeat ∧
  decode (.snsVec 0b1100111#7) = .ok .snsMeasureLastOk ∧
  decode (.snsVec 0b0001110#7) = .ok .snsBitHighOk ∧
  decode (.busReq 0x1FFFFFFFF00#41) = .ok (.wrCtrl 0xFFFFFFFF#32) ∧
  decode (.busReq 0x00000000304#41) = .ok (.wrCmdSnsStart 0x00000001#32) ∧
  decode (.busReq 0x02468ACF10C#41) = .ok (.wrRo 0x0C#8 0x12345678#32) ∧
  decode (.busReq 0x00000000080#41) = .ok (.rdRsvd 0x80#8) ∧
  decode (.busReq 0x00000000002#41) = .ok (.busMisaligned 0x02#8 false 0#32)

/-- Decoding the word of a well-formed operation gives it back, with every operand. -/
def Obligations.DecodeOfEncodeIsInstr : Prop :=
  ∀ i : Instr, i.wellFormed = true → decode (encode i) = .ok i

/-- 30_encoding.md R105: in each unit every vector (every request word) matches exactly one row, and the table has 67 rows for
54 operations: 9 capture, 4 decoder, 22 sensor, and 31 request-word rows and BUS_IDLE for 19 bus operations. -/
def Obligations.EveryWordMatchesExactlyOneRow : Prop :=
  (∀ v : BitVec 7, (capRows.filter (fun r => r.hits v)).length = 1) ∧
  (∀ v : BitVec 3, (decRows.filter (fun r => r.hits v)).length = 1) ∧
  (∀ v : BitVec 7, (snsRows.filter (fun r => r.hits v)).length = 1) ∧
  (∀ w : BitVec 41, (busRows.filter (fun r => r.hits w)).length = 1) ∧
  capRows.length = 9 ∧ decRows.length = 4 ∧ snsRows.length = 22 ∧ busRows.length = 31 ∧
  (busRows.filter (fun r => r.mnemonic == "RD_RSVD")).length = 5 ∧
  (busRows.filter (fun r => r.mnemonic == "WR_RSVD")).length = 5 ∧
  (busRows.filter (fun r => r.mnemonic == "WR_CMD_RSVD")).length = 3 ∧
  (busRows.filter (fun r => r.mnemonic == "WR_RO")).length = 3 ∧
  (busRows.filter (fun r => r.mnemonic == "BUS_MISALIGNED")).length = 2 ∧
  decode .busNone = .ok .busIdle

/-- The decoder, which reads the fields of R98, gives each request word the operation of the table row it matches. -/
def Obligations.RequestWordsDecodeAsTheirRow : Prop :=
  ∀ r ∈ busRows, ∀ w : BitVec 41, r.hits w = true →
    ∃ i, decode (.busReq w) = .ok i ∧ i.mnemonic = r.mnemonic

/-- 30_encoding.md R103. -/
def Obligations.BusOperationSelection : Prop :=
  decode (busWordOf none) = .ok .busIdle ∧
  ∀ (off : Byte) (we : Bool) (wdata : Word), ∃ i,
    decode (busWordOf (some ⟨off, we, wdata, 4⟩)) = .ok i ∧
    (off.toNat % 4 ≠ 0 → i = .busMisaligned off we wdata) ∧
    (we = false →
      (off = 0x00#8 → i = .rdCtrl) ∧ (off = 0x04#8 → i = .rdCmd) ∧ (off = 0x08#8 → i = .rdStatus) ∧
      (off = 0x0C#8 → i = .rdIrResult) ∧ (off = 0x10#8 → i = .rdIrRaw) ∧ (off = 0x14#8 → i = .rdIrLen) ∧
      (off = 0x18#8 → i = .rdSnsResult) ∧ (off = 0x1C#8 → i = .rdSnsData0) ∧ (off = 0x20#8 → i = .rdSnsData1) ∧
      (off.toNat % 4 = 0 ∧ 0x24 ≤ off.toNat → i = .rdRsvd off)) ∧
    (we = true →
      (off = 0x00#8 → i = .wrCtrl wdata) ∧
      (off = 0x04#8 ∧ wdata.toNat % 16 = 0 → i = .wrCmdNop wdata) ∧
      (off = 0x04#8 ∧ wdata.toNat % 16 = 1 → i = .wrCmdSnsStart wdata) ∧
      (off = 0x04#8 ∧ 2 ≤ wdata.toNat % 16 → i = .wrCmdRsvd wdata) ∧
      (off = 0x08#8 → i = .wrStatus wdata) ∧
      (off = 0x0C#8 ∨ off = 0x10#8 ∨ off = 0x14#8 ∨ off = 0x18#8 ∨ off = 0x1C#8 ∨ off = 0x20#8 → i = .wrRo off wdata) ∧
      (off.toNat % 4 = 0 ∧ 0x24 ≤ off.toNat → i = .wrRsvd off wdata))

/-- 30_encoding.md R100 and 40_capture.md R121: the capture vector's bits, and the operation each vector selects, as the
"Selected by" lines of R124–R132 say it. `p` is `(NOW - LAST) mod 2^W`. -/
def Obligations.CaptureSelection : Prop :=
  ∀ (irIn : Bool) (s : State) (p : Nat), (p : Int) = ((s.now : Int) - (s.last : Int)) % ((2 ^ s.cfg.w : Nat) : Int) →
    (captureVector irIn s).getLsbD 0 = s.ctrl.irEn ∧
    (captureVector irIn s).getLsbD 1 = (irIn != s.prevIr) ∧
    (captureVector irIn s).getLsbD 2 = s.baseValid ∧
    (captureVector irIn s).getLsbD 3 = decide (p > 15000) ∧
    (captureVector irIn s).getLsbD 4 = decide (s.idx.toNat < s.cfg.cap) ∧
    (captureVector irIn s).getLsbD 5 = (s.toArmed && decide (p ≥ 100000)) ∧
    (captureVector irIn s).getLsbD 6 = decide (s.idx.toNat ≥ 1) ∧
    decode (.capVec (captureVector irIn s)) = .ok
      (if s.ctrl.irEn = false then .capOff
       else if irIn ≠ s.prevIr then
         if s.baseValid = false then .capBaseline
         else if p > 15000 then (if s.idx.toNat ≥ 1 then .capBoundaryDeliver else .capBoundaryEmpty)
         else (if s.idx.toNat < s.cfg.cap then .capAppend else .capDiscard)
       else if s.toArmed = true ∧ p ≥ 100000 then
         (if s.idx.toNat ≥ 1 then .capTimeoutDeliver else .capTimeoutEmpty)
       else .capQuiet)

/-- 30_encoding.md R101: the decoder vector's bits, and the operation selected (R153–R156). -/
def Obligations.DecoderSelection : Prop :=
  ∀ s : State,
    (decoderVector s).getLsbD 0 = s.decPend ∧
    (decoderVector s).getLsbD 1 = decide (s.decLen.toNat > 50) ∧
    (decoderVector s).getLsbD 2 = decide (0 < s.decLen.toNat ∧ s.decLen.toNat < 10) ∧
    decode (.decVec (decoderVector s)) = .ok
      (if s.decPend = false then .decIdle
       else if s.decLen.toNat > 50 then .decNec
       else if 0 < s.decLen.toNat ∧ s.decLen.toNat < 10 then .decRepeat
       else .decBadlen)

/-- 30_encoding.md R102: the sensor vector's bits, and the operation selected (R186–R207). `e` is the elapsed count of R182,
`B` the bytes after the shift of this tick. -/
def Obligations.SensorSelection : Prop :=
  ∀ (d : Bool) (s : State) (e : Nat) (B : Vector Byte 5), e = s.snsCnt.toNat + 1 →
    B = (shiftBit (decide (e > 40)) s).payload →
    (sensorVector d s).getLsbD 3 = d ∧
    (sensorVector d s).getLsbD 4 = (match s.snsState with
      | .idle => false
      | .startLow => decide (e = 18000)
      | .release => decide (e = s.cfg.tRel)
      | .respLow | .respHigh | .dataLow => decide (e = 100)
      | .bitHigh => decide (e = 70)
      | .bitMeasure => decide (e = 120)) ∧
    (sensorVector d s).getLsbD 5 = decide (s.snsNbits.toNat + 1 = 40) ∧
    (sensorVector d s).getLsbD 6 =
      decide ((B[0].toNat + B[1].toNat + B[2].toNat + B[3].toNat) % 256 = B[4].toNat) ∧
    ((sensorVector d s).extractLsb' 0 3).toNat = (match s.snsState with
      | .idle => 0 | .startLow => 1 | .release => 2 | .respLow => 3
      | .respHigh => 4 | .dataLow => 5 | .bitHigh => 6 | .bitMeasure => 7) ∧
    decode (.snsVec (sensorVector d s)) = .ok (match s.snsState with
      | .idle => .snsIdle
      | .startLow => if e = 18000 then .snsStartLowEnd else .snsStartLowCont
      | .release => if e = s.cfg.tRel then .snsReleaseEnd else .snsReleaseCont
      | .respLow => if d = false then .snsRespLowOk else if e = 100 then .snsRespLowFail else .snsRespLowWait
      | .respHigh => if d = true then .snsRespHighOk else if e = 100 then .snsRespHighFail else .snsRespHighWait
      | .dataLow => if d = false then .snsDataLowOk else if e = 100 then .snsDataLowFail else .snsDataLowWait
      | .bitHigh => if d = true then .snsBitHighOk else if e = 70 then .snsBitHighFail else .snsBitHighWait
      | .bitMeasure =>
        if d = true then (if e = 120 then .snsMeasureFail else .snsMeasureWait)
        else if s.snsNbits.toNat + 1 = 40 then
          (if (B[0].toNat + B[1].toNat + B[2].toNat + B[3].toNat) % 256 = B[4].toNat then .snsMeasureLastOk
           else .snsMeasureLastBad)
        else .snsMeasureBit)

/-! ## The tick (00_scope.md R9, R10) -/

/-- 00_scope.md R10: a tick that is not a reset tick performs, in this order, the operation its request selects, the decoder's,
the capture unit's, the sampling of ir_in, the sensor's, and the end phase; each sees the writes of those before it. -/
def Obligations.TickRunsSelectedOperations : Prop :=
  ∀ (s s1 s2 s3 s4 : State) (i1 i2 i3 i4 : Instr), (tickInput s).rst = false →
    decode (busWordOf (tickInput s).bus) = .ok i1 → exec i1 (takeInput s) = .next s1 →
    decode (.decVec (decoderVector s1)) = .ok i2 → exec i2 s1 = .next s2 →
    decode (.capVec (captureVector (tickInput s).irIn s2)) = .ok i3 → exec i3 s2 = .next s3 →
    decode (.snsVec (sensorVector (tickInput s).dqIn { s3 with prevIr := (tickInput s).irIn })) = .ok i4 →
    exec i4 { s3 with prevIr := (tickInput s).irIn } = .next s4 →
    step s = .next { s4 with
      now := (s4.now + 1) % 2 ^ s4.cfg.w
      irq := (s4.status.irRdy && s4.ctrl.irqIrEn) || (s4.status.snsDone && s4.ctrl.irqSnsEn) }

/-- 43_host_bus.md R239 and 20_memory.md R61: a tick within the contract has a next state; a request outside it is refused; no
tick faults. -/
def Obligations.OnlyRequestsOutsideContractStop : Prop :=
  ∀ s : State,
    ((tickInput s).rst = true ∨ (tickInput s).bus = none ∨
      (∃ r, (tickInput s).bus = some r ∧ r.size = 4 ∧ r.off.toNat % 4 = 0) → ∃ t, step s = .next t) ∧
    (∀ r, (tickInput s).rst = false → (tickInput s).bus = some r → (r.size ≠ 4 ∨ r.off.toNat % 4 ≠ 0) →
      step s = .refused .outsideContract)

/-- 43_host_bus.md R239: BUS_MISALIGNED is what an access that is misaligned or not 32 bits wide selects, and the model refuses
it in every state. -/
def Obligations.MisalignedAccessIsRefused : Prop :=
  (∀ (off : Byte) (we : Bool) (wdata : Word) (size : Nat), size ≠ 4 ∨ off.toNat % 4 ≠ 0 →
    decode (busWordOf (some ⟨off, we, wdata, size⟩)) = .ok (.busMisaligned off we wdata)) ∧
  (∀ (off : Byte) (we : Bool) (wdata : Word) (s : State),
    exec (.busMisaligned off we wdata) s = .refused .outsideContract)

/-- 70_reset_and_hazards.md R280. That the instance stays and the input is consumed is the model's form of R9 and R44 (log
entries 1 and 2); that an unspecified entry of BUF is a free value of a new draw, the counter's next, is the model's form of
R280 item 2 (log entries 2 and 3). -/
def Obligations.ResetTickResetsEveryElement : Prop :=
  ∀ s : State, (tickInput s).rst = true → ∃ t, step s = .next t ∧
    t.ctrl = ⟨false, false, false⟩ ∧ t.status = ⟨false, false, false, false⟩ ∧
    irResultWord t.irResult = 0#32 ∧ t.irRaw = 0#32 ∧ t.irLen = 0#16 ∧
    snsResultWord t.snsState t.snsNbits t.snsCode = 0x0000000F#32 ∧
    snsData0Word t.payload = 0#32 ∧ snsData1Word t.payload = 0#32 ∧
    t.now = 0 ∧ t.prevIr = true ∧ t.last = 0 ∧ t.baseValid = false ∧ t.toArmed = false ∧ t.idx = 0#16 ∧
    t.active = false ∧ t.decLen = 0#16 ∧ t.decPend = false ∧ t.snsCnt = 0#15 ∧
    t.irq = false ∧ t.dqOe = false ∧ t.rdata = none ∧
    (∀ b i, bufRead t b i = Config.freeSample t.bufDraw (bufKey b i)) ∧
    t.bufDraw = (takeInput s).draws ∧ t.draws = (takeInput s).draws + 1 ∧
    t.cfg = s.cfg ∧ t.inputs = s.inputs.drop 1

/-- 30_encoding.md R80, column "reset": what a read of each offset returns after reset. -/
def Obligations.RegistersAfterReset : Prop :=
  ∀ off : Byte, registerWord off State.reset = if off = 0x18#8 then 0x0000000F#32 else 0#32

/-- The invariants hold after a reset tick of every instance (10_state.md R43, 70_reset_and_hazards.md R280), State.reset among them.
The canonical form of BUF's list and the range of its listed samples are over the model's own list of the entries written (log entry
3); that ResultInv has BUTTON 0 there is the model's reading (log entry 4); the instance and the draws are its form of R44 and
R280 (log entries 1 and 2). -/
def Obligations.InvariantsHoldAfterReset : Prop :=
  (∃ (cfg : Config) (inputs : List TickInput) (draws : Nat), State.reset = State.afterReset cfg inputs draws) ∧
  ∀ (cfg : Config) (inputs : List TickInput) (draws : Nat) (s : State), s = State.afterReset cfg inputs draws →
    CaptureInv s ∧ SensorInv s ∧ ResultInv s ∧ SamplesInRange s ∧ Memory.wf s.cfg.cap s.buf = true

/-! ## Invariants that every step keeps -/

/-- BUF keeps its canonical form (the list is the model's own form of BUF, log entry 3), and the instance's parameters never
change (R44; that State carries them is log entry 1). -/
def Obligations.PulseMemoryStaysCanonical : Prop :=
  ∀ s t : State, Memory.wf s.cfg.cap s.buf = true → step s = .next t →
    t.cfg = s.cfg ∧ Memory.wf t.cfg.cap t.buf = true

/-- 10_state.md R43: items 1 to 5 at the end of every tick; a pending decode means a swap in this tick. -/
def Obligations.CaptureInvariantKept : Prop :=
  ∀ s t : State, CaptureInv s → step s = .next t →
    CaptureInv t ∧ (t.decPend = true → t.active = !s.active ∧ t.idx = 0#16)

/-- 40_capture.md R136. The stored samples are the entries that BUF's list names, the model's own form of BUF (log entry 3); the
capture invariant, kept too, is what bounds a pulse that is stored. -/
def Obligations.StoredSamplesStayInRange : Prop :=
  ∀ s t : State, CaptureInv s → SamplesInRange s → step s = .next t → CaptureInv t ∧ SamplesInRange t

/-- The reader's registers stay in their ranges, its CODE agrees with them, and the data registers are zero above the bits
received. (That each received bit is the one measured is MeasuredBitIsShiftedIn.) -/
def Obligations.SensorInvariantKept : Prop :=
  ∀ s t : State, SensorInv s → step s = .next t → SensorInv t

/-- IR_RESULT, IR_RAW and IR_LEN always belong to one publication of a legal kind. That IR_RESULT.BUTTON reads 0 before the
first publication is the model's reading (log entry 4). -/
def Obligations.ResultInvariantKept : Prop :=
  ∀ s t : State, ResultInv s → step s = .next t → ResultInv t

/-! ## Who writes what -/

/-- Every operation leaves the state of the other units alone (10_state.md R24, R26–R29, R36–R40). -/
def Obligations.OperationsWriteOnlyTheirUnit : Prop :=
  ∀ (i : Instr) (s t : State), exec i s = .next t →
    t.cfg = s.cfg ∧ t.now = s.now ∧ t.prevIr = s.prevIr ∧ t.bufDraw = s.bufDraw ∧ t.irq = s.irq ∧
    t.inputs = s.inputs ∧ t.draws = s.draws ∧
    (i.unitOf ≠ .bus → t.ctrl = s.ctrl ∧ t.rdata = s.rdata ∧ t.status.cmdErr = s.status.cmdErr) ∧
    (i.unitOf ≠ .decoder → t.irResult = s.irResult ∧ t.irRaw = s.irRaw ∧ t.irLen = s.irLen) ∧
    (i.unitOf ≠ .capture → t.buf = s.buf ∧ t.active = s.active ∧ t.idx = s.idx ∧ t.decLen = s.decLen ∧
      t.last = s.last ∧ t.baseValid = s.baseValid ∧ t.toArmed = s.toArmed) ∧
    (i.unitOf = .capture ∨ i.unitOf = .decoder → t.snsCode = s.snsCode ∧ t.snsNbits = s.snsNbits ∧
      t.snsState = s.snsState ∧ t.payload = s.payload ∧ t.snsCnt = s.snsCnt ∧ t.dqOe = s.dqOe ∧
      t.status.snsDone = s.status.snsDone) ∧
    (i.unitOf = .bus ∨ i.unitOf = .sensor → t.decPend = s.decPend) ∧
    (i.unitOf = .capture → t.status = s.status) ∧
    (i.unitOf = .sensor → t.status.irRdy = s.status.irRdy ∧ t.status.irOvr = s.status.irOvr) ∧
    (i.unitOf = .bus → t.dqOe = s.dqOe) ∧
    (i.unitOf = .bus → (∀ wdata, i ≠ .wrCmdSnsStart wdata) → t.snsCode = s.snsCode ∧ t.snsNbits = s.snsNbits ∧
      t.snsState = s.snsState ∧ t.payload = s.payload ∧ t.snsCnt = s.snsCnt)

/-- 10_state.md R40, 20_memory.md R66: only the capture unit's APPEND changes an entry of BUF, and only
`BUF[ACTIVE][IDX]`. -/
def Obligations.BufWrittenOnlyAtActiveIndex : Prop :=
  ∀ (i : Instr) (s t : State) (bank : Bool) (j : Nat), exec i s = .next t → j < s.cfg.cap →
    bufRead t bank j ≠ bufRead s bank j → i = .capAppend ∧ bank = s.active ∧ j = s.idx.toNat

/-! ## Bus operations (43_host_bus.md) -/

/-- 43_host_bus.md R222, R223, R224, bit by bit; a read changes only rdata. -/
def Obligations.ControlAndStatusReads : Prop :=
  ∀ s : State, ∃ c st : Word,
    exec .rdCtrl s = .next { s with rdata := some c } ∧
    (∀ k, c.getLsbD k =
      ((k == 0 && s.ctrl.irEn) || (k == 1 && s.ctrl.irqIrEn) || (k == 2 && s.ctrl.irqSnsEn))) ∧
    exec .rdCmd s = .next { s with rdata := some 0x00000000#32 } ∧
    exec .rdStatus s = .next { s with rdata := some st } ∧
    (∀ k, st.getLsbD k =
      ((k == 0 && s.status.irRdy) || (k == 1 && s.status.irOvr) || (k == 2 && s.status.snsDone) ||
       (k == 3 && decide (s.snsState ≠ .idle)) || (k == 4 && s.status.cmdErr)))

/-- 43_host_bus.md R225, R226, R227, with the fields of 30_encoding.md R84, R85, R87. -/
def Obligations.IrRegisterReads : Prop :=
  ∀ s : State, ∃ r l : Word,
    exec .rdIrResult s = .next { s with rdata := some r } ∧
    (r.extractLsb' 0 2).toNat = (match s.irResult.kind with
      | .noResult => 0 | .data => 1 | .repeatCode => 2 | .invalid => 3) ∧
    r.extractLsb' 2 2 = 0#2 ∧
    (r.extractLsb' 4 4).toNat = (match s.irResult.reason with
      | .noReason => 0 | .length => 1 | .startMark => 2 | .startSpace => 3
      | .bitMark => 4 | .bitSpace => 5 | .addrCheck => 6 | .cmdCheck => 7) ∧
    r.extractLsb' 8 8 = s.irResult.address ∧
    r.extractLsb' 16 8 = s.irResult.command ∧
    r.extractLsb' 24 8 = s.irResult.button ∧
    exec .rdIrRaw s = .next { s with rdata := some s.irRaw } ∧
    exec .rdIrLen s = .next { s with rdata := some l } ∧
    l.extractLsb' 0 16 = s.irLen ∧ l.extractLsb' 16 16 = 0#16

/-- 43_host_bus.md R228–R231, with the fields of 30_encoding.md R88–R91; the byte lanes are those of 20_memory.md R63. -/
def Obligations.SensorRegisterReads : Prop :=
  ∀ s : State, ∃ r d0 d1 : Word,
    exec .rdSnsResult s = .next { s with rdata := some r } ∧
    (r.extractLsb' 0 4).toNat = (match s.snsCode with
      | .ok => 0x0 | .responseLowTimeout => 0x1 | .responseHighTimeout => 0x2 | .dataStartTimeout => 0x3
      | .bitStartTimeout => 0x4 | .bitWidthTimeout => 0x5 | .checksumError => 0x6 | .noCode => 0xF) ∧
    r.extractLsb' 4 4 = 0#4 ∧
    r.extractLsb' 8 6 = s.snsNbits ∧
    r.extractLsb' 14 2 = 0#2 ∧
    (r.extractLsb' 16 3).toNat = (match s.snsState with
      | .idle => 0 | .startLow => 1 | .release => 2 | .respLow => 3
      | .respHigh => 4 | .dataLow => 5 | .bitHigh => 6 | .bitMeasure => 7) ∧
    r.extractLsb' 19 13 = 0#13 ∧
    exec .rdSnsData0 s = .next { s with rdata := some d0 } ∧
    (∀ (k : Nat) (_ : k < 4), busByte d0 k = s.payload[k]) ∧
    exec .rdSnsData1 s = .next { s with rdata := some d1 } ∧
    busByte d1 0 = s.payload[4] ∧ d1.extractLsb' 8 24 = 0#24 ∧
    (∀ off, exec (.rdRsvd off) s = .next { s with rdata := some 0x00000000#32 })

/-- 20_memory.md R64: the value read is the register's at the start of the tick, and a tick with a read differs from the same
tick without a request in rdata alone. -/
def Obligations.ReadsHaveNoSideEffect : Prop :=
  ∀ (inp : TickInput) (off : Byte) (wdata : Word) (s : State), inp.rst = false → off.toNat % 4 = 0 →
    ∃ t, tick { inp with bus := some ⟨off, false, wdata, 4⟩ } s =
        .next { t with rdata := some (registerWord off s) } ∧
      tick { inp with bus := none } s = .next t ∧ t.rdata = none

/-- 43_host_bus.md R221, R232, R233, R235, R237, R238. -/
def Obligations.WritesChangeOnlyWhatTheyName : Prop :=
  ∀ (s : State) (off : Byte) (wdata : Word),
    exec .busIdle s = .next { s with rdata := none } ∧
    exec (.wrCtrl wdata) s = .next { s with
      rdata := none
      ctrl := { irEn := wdata.getLsbD 0, irqIrEn := wdata.getLsbD 1, irqSnsEn := wdata.getLsbD 2 } } ∧
    exec (.wrCmdNop wdata) s = .next { s with rdata := none } ∧
    exec (.wrCmdRsvd wdata) s = .next { s with rdata := none, status := { s.status with cmdErr := true } } ∧
    exec (.wrRo off wdata) s = .next { s with rdata := none } ∧
    exec (.wrRsvd off wdata) s = .next { s with rdata := none }

/-- 43_host_bus.md R236. -/
def Obligations.StatusWriteOneToClear : Prop :=
  ∀ (s : State) (wdata : Word), ∃ f : Status,
    exec (.wrStatus wdata) s = .next { s with rdata := none, status := f } ∧
    f.irRdy = (if wdata.getLsbD 0 = true then false else s.status.irRdy) ∧
    f.irOvr = (if wdata.getLsbD 1 = true then false else s.status.irOvr) ∧
    f.snsDone = (if wdata.getLsbD 2 = true then false else s.status.snsDone) ∧
    f.cmdErr = (if wdata.getLsbD 4 = true then false else s.status.cmdErr)

/-- 43_host_bus.md R234: SNS_START on an idle reader starts a read, on a busy one sets CMD_ERR. -/
def Obligations.SensorStart : Prop :=
  ∀ (s : State) (wdata : Word),
    (s.snsState = .idle → exec (.wrCmdSnsStart wdata) s = .next { s with
      rdata := none, snsState := .startLow, snsNbits := 0#6, snsCode := .noCode, snsCnt := 0#15
      payload := #v[0#8, 0#8, 0#8, 0#8, 0#8], status := { s.status with snsDone := false } }) ∧
    (s.snsState ≠ .idle → exec (.wrCmdSnsStart wdata) s = .next { s with
      rdata := none, status := { s.status with cmdErr := true } })

/-- The register window (20_memory.md R60): an aligned word access at `BASE + off` is the request for offset `off`, and an
address outside `BASE + 0x00 .. BASE + 0xFF` makes none (the model's reading, log entry 19). -/
def Obligations.WindowIsAtBase : Prop :=
  ∀ (c : Config) (off : Byte) (v : Word) (addr size : Nat) (we : Bool),
    memReadRequest c off = some ⟨off, false, 0#32, 4⟩ ∧
    memWriteRequest c off v = some ⟨off, true, v, 4⟩ ∧
    (addr < c.base ∨ c.base + 256 ≤ addr → requestAt c addr size we v = none) ∧
    c.base % 256 = 0

/-! ## Status flags and the interrupt, over a whole tick -/

/-- 41_decoder.md R160, with the clears of 43_host_bus.md R236: the host's write comes first, so set wins. -/
def Obligations.OverrunAndReadyFlags : Prop :=
  ∀ s t : State, (tickInput s).rst = false → step s = .next t →
    t.status.irOvr = ((s.status.irOvr && !(w1cMask (tickInput s).bus).getLsbD 1) ||
      (s.decPend && (s.status.irRdy && !(w1cMask (tickInput s).bus).getLsbD 0))) ∧
    t.status.irRdy = ((s.status.irRdy && !(w1cMask (tickInput s).bus).getLsbD 0) || s.decPend)

/-- SNS_DONE over a tick (42_sensor.md R183; 43_host_bus.md R234, R236): a finish sets it, whatever the host clears in that
tick. -/
def Obligations.SensorDoneFlag : Prop :=
  ∀ s t : State, (tickInput s).rst = false → step s = .next t →
    t.status.snsDone = ((s.status.snsDone && !(w1cMask (tickInput s).bus).getLsbD 2 &&
        !(isSnsStart (tickInput s).bus && decide (s.snsState = .idle))) ||
      (decide (s.snsState ≠ .idle) && decide (t.snsState = .idle)))

/-- 60_exceptions.md R254: what sets CMD_ERR, that it is sticky, that it does not drive irq, and that a command error changes no
other state. -/
def Obligations.CommandErrors : Prop :=
  (∀ s t : State, (tickInput s).rst = false → step s = .next t →
    t.status.cmdErr = ((s.status.cmdErr && !(w1cMask (tickInput s).bus).getLsbD 4) ||
      isReservedCommand (tickInput s).bus || (isSnsStart (tickInput s).bus && decide (s.snsState ≠ .idle))) ∧
    t.irq = ((t.status.irRdy && t.ctrl.irqIrEn) || (t.status.snsDone && t.ctrl.irqSnsEn))) ∧
  (∀ (s : State) (wdata : Word), exec (.wrCmdRsvd wdata) s =
    .next { s with rdata := none, status := { s.status with cmdErr := true } }) ∧
  (∀ (s : State) (wdata : Word), s.snsState ≠ .idle → exec (.wrCmdSnsStart wdata) s =
    .next { s with rdata := none, status := { s.status with cmdErr := true } })

/-- 10_state.md R48 item 2: after every tick, a reset tick too, irq is the level of the enabled pending sources. -/
def Obligations.InterruptIsLevel : Prop :=
  ∀ s t : State, step s = .next t →
    t.irq = ((t.status.irRdy && t.ctrl.irqIrEn) || (t.status.snsDone && t.ctrl.irqSnsEn))

/-! ## Capture (40_capture.md) -/

/-- 40_capture.md R124, R125, R127, R128, R130, R132. -/
def Obligations.CaptureWithoutDelivery : Prop :=
  ∀ s : State,
    exec .capOff s = .next { s with idx := 0#16, baseValid := false, toArmed := false } ∧
    exec .capQuiet s = .next s ∧
    exec .capTimeoutEmpty s = .next { s with idx := 0#16, baseValid := false, toArmed := false } ∧
    exec .capBaseline s = .next { s with last := s.now, toArmed := true, baseValid := true } ∧
    exec .capBoundaryEmpty s = .next { s with last := s.now, toArmed := true, idx := 0#16 } ∧
    exec .capDiscard s = .next { s with last := s.now, toArmed := true, idx := 0#16, baseValid := false }

/-- 40_capture.md R126, R129, with the swap of R122 and the bookkeeping of R123. -/
def Obligations.CaptureDelivery : Prop :=
  ∀ s : State,
    exec .capTimeoutDeliver s = .next { s with
      decLen := s.idx, active := !s.active, decPend := true, idx := 0#16, baseValid := false, toArmed := false } ∧
    exec .capBoundaryDeliver s = .next { s with
      last := s.now, toArmed := true, decLen := s.idx, active := !s.active, decPend := true, idx := 0#16 }

/-- 40_capture.md R131, where the operation is selected (IDX < CAP): the pulse goes to `BUF[ACTIVE][IDX]`, every other entry reads
as before, IDX grows by one, LAST and TO_ARMED are the bookkeeping's, and nothing else changes. -/
def Obligations.AppendStoresThePulse : Prop :=
  ∀ (s : State) (p : Nat), (p : Int) = ((s.now : Int) - (s.last : Int)) % ((2 ^ s.cfg.w : Nat) : Int) →
    s.idx.toNat < s.cfg.cap →
    ∃ t, exec .capAppend s = .next t ∧
      (∀ (bank : Bool) (i : Nat), i < s.cfg.cap → bufRead t bank i =
        if bank = s.active ∧ i = s.idx.toNat then BitVec.ofNat 16 p else bufRead s bank i) ∧
      t = { s with last := s.now, toArmed := true, idx := t.idx, buf := t.buf } ∧
      t.idx.toNat = s.idx.toNat + 1

/-- 40_capture.md R133: when an edge comes with the timeout due, the edge's operation alone leaves the state that the timeout and
then the edge as a baseline would leave, with at most one swap. -/
def Obligations.EdgeEqualsTimeoutThenBaseline : Prop :=
  ∀ (irIn : Bool) (s : State), s.ctrl.irEn = true → irIn ≠ s.prevIr → timeoutDue s = true →
    (s.baseValid = false → s.idx = 0#16) →
    ∃ (i j : Instr) (u v : State),
      decode (.capVec (captureVector irIn s)) = .ok i ∧
      decode (.capVec (captureVector s.prevIr s)) = .ok j ∧
      exec i s = .next v ∧ exec j s = .next u ∧ exec .capBaseline u = .next v ∧
      v.idx = 0#16 ∧ v.baseValid = true ∧ v.last = s.now ∧ v.toArmed = true ∧
      v.active = (if s.idx.toNat ≥ 1 then !s.active else s.active)

/-- 40_capture.md R120: EDGE compares with the previous tick's sample, and every tick that is not a reset tick ends with
`PREV_IR = ir_in`, whatever IR_EN holds. -/
def Obligations.InputSampledEveryTick : Prop :=
  (∀ (irIn : Bool) (s : State), (captureVector irIn s).getLsbD 1 = decide (irIn ≠ s.prevIr)) ∧
  (∀ s t : State, (tickInput s).rst = false → step s = .next t → t.prevIr = (tickInput s).irIn)

/-- NOW counts ticks mod 2^W (10_state.md R31), and the pulse counts the ticks since the last processed edge without a wrap
error (40_capture.md R135): it is 1 after an edge's tick and grows by one in a tick without an edge while the timer is
armed. -/
def Obligations.PulseCountsElapsedTicks : Prop :=
  ∀ s t : State, (tickInput s).rst = false → step s = .next t →
    t.now = (s.now + 1) % 2 ^ s.cfg.w ∧
    (t.ctrl.irEn = true → (tickInput s).irIn ≠ s.prevIr → pulse t = 1) ∧
    (CaptureInv s → (tickInput s).irIn = s.prevIr → t.toArmed = true → pulse t = pulse s + 1)

/-! ## Decoder (41_decoder.md) -/

/-- 41_decoder.md R151, R152. -/
def Obligations.ToleranceWindows : Prop :=
  (∀ (m : Sample) (t : Nat), toleranceMatch m t = true ↔ 100 * |(m.toNat : Int) - (t : Int)| ≤ 30 * (t : Int)) ∧
  (∀ m : Sample,
    (toleranceMatch m 9000 = true ↔ 6300 ≤ m.toNat ∧ m.toNat ≤ 11700) ∧
    (toleranceMatch m 4500 = true ↔ 3150 ≤ m.toNat ∧ m.toNat ≤ 5850) ∧
    (toleranceMatch m 560 = true ↔ 392 ≤ m.toNat ∧ m.toNat ≤ 728) ∧
    (toleranceMatch m 1690 = true ↔ 1183 ≤ m.toNat ∧ m.toNat ≤ 2197) ∧
    ¬ (toleranceMatch m 560 = true ∧ toleranceMatch m 1690 = true))

/-- 41_decoder.md R153, R154, R155: BUF is not read, and all of the result registers are written at once. -/
def Obligations.IdleRepeatAndBadLength : Prop :=
  ∀ s : State,
    exec .decIdle s = .next s ∧
    exec .decRepeat s = .next { s with
      decPend := false
      irResult := { kind := .repeatCode, reason := .noReason, address := 0#8, command := 0#8, button := 0xFF#8 }
      irRaw := 0#32
      irLen := s.decLen
      status := { s.status with irOvr := s.status.irOvr || s.status.irRdy, irRdy := true } } ∧
    exec .decBadlen s = .next { s with
      decPend := false
      irResult := { kind := .invalid, reason := .length, address := 0#8, command := 0#8, button := 0xFF#8 }
      irRaw := 0#32
      irLen := s.decLen
      status := { s.status with irOvr := s.status.irOvr || s.status.irRdy, irRdy := true } }

/-- A well-formed frame decodes to exactly its bytes (41_decoder.md R165 item 1, R156–R159, R161): every sample of the decode
bank within its window, bit `31 - i` of `a, ~a, c, ~c` in pair `i`. -/
def Obligations.WellFormedFrameDecodesToItsBytes : Prop :=
  ∀ (s : State) (a c : Byte) (w : Word) (x : Nat → Nat),
    w = a ++ ~~~a ++ c ++ ~~~c → (∀ k, k < 66 → x k = (bufRead s (!s.active) k).toNat) →
    6300 ≤ x 0 ∧ x 0 ≤ 11700 → 3150 ≤ x 1 ∧ x 1 ≤ 5850 →
    (∀ i, i < 32 → 392 ≤ x (2 * i + 2) ∧ x (2 * i + 2) ≤ 728) →
    (∀ i, i < 32 → if w.getLsbD (31 - i) = true then 1183 ≤ x (2 * i + 3) ∧ x (2 * i + 3) ≤ 2197
      else 392 ≤ x (2 * i + 3) ∧ x (2 * i + 3) ≤ 728) →
    exec .decNec s = .next { s with
      decPend := false
      irResult := { kind := .data, reason := .noReason, address := a, command := c, button := buttonMap s.cfg c }
      irRaw := w
      irLen := s.decLen
      status := { s.status with irOvr := s.status.irOvr || s.status.irRdy, irRdy := true } }

/-- The first check that fails decides REASON (41_decoder.md R156, R158, R165 item 2; 30_encoding.md R85). `pairOk i` says that
mark `i` matches 560 and space `i` matches 560 or 1690, `w` is the word that the spaces give. -/
def Obligations.FirstFailingCheckDecidesReason : Prop :=
  ∀ (s : State) (w : Word) (x : Nat → Nat) (pairOk : Nat → Prop),
    (∀ k, k < 66 → x k = (bufRead s (!s.active) k).toNat) →
    (∀ i, i < 32 → (pairOk i ↔ (392 ≤ x (2 * i + 2) ∧ x (2 * i + 2) ≤ 728) ∧
      ((392 ≤ x (2 * i + 3) ∧ x (2 * i + 3) ≤ 728) ∨ (1183 ≤ x (2 * i + 3) ∧ x (2 * i + 3) ≤ 2197)))) →
    (∀ i, i < 32 → (w.getLsbD (31 - i) = true ↔ 1183 ≤ x (2 * i + 3))) →
    ∀ (reason : Reason) (raw : Word),
      ((reason = .startMark ∧ raw = 0#32 ∧ ¬ (6300 ≤ x 0 ∧ x 0 ≤ 11700)) ∨
       (reason = .startSpace ∧ raw = 0#32 ∧ (6300 ≤ x 0 ∧ x 0 ≤ 11700) ∧ ¬ (3150 ≤ x 1 ∧ x 1 ≤ 5850)) ∨
       ((6300 ≤ x 0 ∧ x 0 ≤ 11700) ∧ (3150 ≤ x 1 ∧ x 1 ≤ 5850) ∧
        ((∃ i, i < 32 ∧ (∀ j, j < i → pairOk j) ∧ reason = .bitMark ∧ raw = 0#32 ∧
            ¬ (392 ≤ x (2 * i + 2) ∧ x (2 * i + 2) ≤ 728)) ∨
         (∃ i, i < 32 ∧ (∀ j, j < i → pairOk j) ∧ reason = .bitSpace ∧ raw = 0#32 ∧
            (392 ≤ x (2 * i + 2) ∧ x (2 * i + 2) ≤ 728) ∧ ¬ pairOk i) ∨
         ((∀ i, i < 32 → pairOk i) ∧ raw = w ∧
           ((reason = .addrCheck ∧ w.extractLsb' 24 8 ^^^ w.extractLsb' 16 8 ≠ 0xFF#8) ∨
            (reason = .cmdCheck ∧ w.extractLsb' 24 8 ^^^ w.extractLsb' 16 8 = 0xFF#8 ∧
              w.extractLsb' 8 8 ^^^ w.extractLsb' 0 8 ≠ 0xFF#8)))))) →
      exec .decNec s = .next { s with
        decPend := false
        irResult := { kind := .invalid, reason := reason, address := 0#8, command := 0#8, button := 0xFF#8 }
        irRaw := raw
        irLen := s.decLen
        status := { s.status with irOvr := s.status.irOvr || s.status.irRdy, irRdy := true } }

/-- DEC_NEC depends on the samples 0..65 of the decode bank and on no other entry of BUF (41_decoder.md R163). It reads each of
them, whatever DEC_LEN is, stale ones included (R162): with any one of them replaced by a sample that lies in no window,
what was a DATA result is INVALID. -/
def Obligations.NecReadsOnlyTheFirst66Samples : Prop :=
  (∀ (s : State) (m : Memory) (d : Nat),
    (∀ k, k < 66 → bufRead { s with buf := m, bufDraw := d } (!s.active) k = bufRead s (!s.active) k) →
    ∃ t, exec .decNec s = .next t ∧
      exec .decNec { s with buf := m, bufDraw := d } = .next { t with buf := m, bufDraw := d }) ∧
  (∀ (s t : State) (k : Nat), k < 66 → exec .decNec s = .next t → t.irResult.kind = .data →
    ∃ u, exec .decNec { s with buf := memInsert s.buf (bufKey (!s.active) k) 15000#16 } = .next u ∧
      u.irResult.kind = .invalid ∧ u.irLen = s.decLen)

/-- A burst delivered in one tick is decoded and published in the next, whatever IR_EN and the request are, and without one the
result registers keep their values (41_decoder.md R150, R154, R155, R159). -/
def Obligations.PendingBurstIsPublishedInTheNextTick : Prop :=
  ∀ s t : State, (tickInput s).rst = false → step s = .next t →
    (s.decPend = true → t.status.irRdy = true ∧ t.irLen = s.decLen ∧
      (0 < s.decLen.toNat ∧ s.decLen.toNat < 10 → t.irResult.kind = .repeatCode) ∧
      (s.decLen.toNat = 0 ∨ 10 ≤ s.decLen.toNat ∧ s.decLen.toNat ≤ 50 →
        t.irResult.kind = .invalid ∧ t.irResult.reason = .length) ∧
      (50 < s.decLen.toNat → (t.irResult.kind = .data ∨ t.irResult.kind = .invalid) ∧ t.irResult.reason ≠ .length)) ∧
    (s.decPend = false → t.irResult = s.irResult ∧ t.irRaw = s.irRaw ∧ t.irLen = s.irLen)

/-- BUTTON_MAP (41_decoder.md R161; 00_scope.md R7; 30_encoding.md R97): total, an entry of the table for a mapped command and
never 0xFF there, 0xFF for an unmapped one. -/
def Obligations.ButtonMapGivesTableEntry : Prop :=
  ∀ (c : Config) (command : Byte),
    ((∃ e ∈ c.buttons, e.1 = command) →
      (command, buttonMap c command) ∈ c.buttons ∧ buttonMap c command ≠ 0xFF#8) ∧
    ((∀ e ∈ c.buttons, e.1 ≠ command) → buttonMap c command = 0xFF#8)

/-! ## Sensor (42_sensor.md) -/

/-- 42_sensor.md R186, R187, R189, R192, R195, R198, R201, R206: an operation that stays in its state sets `SNS_CNT <- e`
(SNS_CNT plus one, where that fits 15 bits: the count of a state is below 18000), and dq_oe as R181 says. -/
def Obligations.SensorWaitsCountTicks : Prop :=
  ∀ s : State,
    exec .snsIdle s = .next { s with dqOe := decide (s.snsState = .startLow) } ∧
    ∀ i ∈ [Instr.snsStartLowCont, .snsReleaseCont, .snsRespLowWait, .snsRespHighWait, .snsDataLowWait,
           .snsBitHighWait, .snsMeasureWait],
      exec i s = .next { s with dqOe := decide (s.snsState = .startLow), snsCnt := s.snsCnt + 1#15 }

/-- 42_sensor.md R188, R190, R191, R194, R197, R200: an operation that moves on sets STATE and `SNS_CNT <- 0`. -/
def Obligations.SensorMovesToNextState : Prop :=
  ∀ s : State,
    ∀ m ∈ [(Instr.snsStartLowEnd, SnsState.release), (.snsReleaseEnd, .respLow), (.snsRespLowOk, .respHigh),
           (.snsRespHighOk, .dataLow), (.snsDataLowOk, .bitHigh), (.snsBitHighOk, .bitMeasure)],
      exec m.1 s = .next { s with
        dqOe := decide (s.snsState = .startLow), snsState := m.2, snsCnt := 0#15 }

/-- 42_sensor.md R193, R196, R199, R202, R207, with `finish` of R183: the payload and NBITS keep their values. -/
def Obligations.SensorFailuresFinishWithTheirCode : Prop :=
  ∀ s : State,
    ∀ m ∈ [(Instr.snsRespLowFail, SnsCode.responseLowTimeout), (.snsRespHighFail, .responseHighTimeout),
           (.snsDataLowFail, .dataStartTimeout), (.snsBitHighFail, .bitStartTimeout), (.snsMeasureFail, .bitWidthTimeout)],
      exec m.1 s = .next { s with
        dqOe := decide (s.snsState = .startLow), snsCode := m.2, snsState := .idle, snsCnt := 0#15
        status := { s.status with snsDone := true } }

/-- 42_sensor.md R203, R204, R205, with `shift` of R184 (NBITS ≤ 39 there): the bit is 1 iff the high lasted over 40 ticks, byte
`NBITS div 8` takes it as its new bit 0, and the other bytes stay. -/
def Obligations.MeasuredBitIsShiftedIn : Prop :=
  ∀ (s : State) (b : Nat), s.snsNbits.toNat ≤ 39 → b = (if s.snsCnt.toNat + 1 > 40 then 1 else 0) →
    ∃ p : Vector Byte 5,
      (∀ (k : Nat) (h : k < 5), (p[k]).toNat =
        if k = s.snsNbits.toNat / 8 then (2 * (s.payload[k]).toNat + b) % 256 else (s.payload[k]).toNat) ∧
      exec .snsMeasureBit s = .next { s with
        dqOe := decide (s.snsState = .startLow), payload := p, snsNbits := s.snsNbits + 1#6
        snsState := .bitHigh, snsCnt := 0#15 } ∧
      exec .snsMeasureLastOk s = .next { s with
        dqOe := decide (s.snsState = .startLow), payload := p, snsNbits := s.snsNbits + 1#6, snsCode := .ok
        snsState := .idle, snsCnt := 0#15, status := { s.status with snsDone := true } } ∧
      exec .snsMeasureLastBad s = .next { s with
        dqOe := decide (s.snsState = .startLow), payload := p, snsNbits := s.snsNbits + 1#6, snsCode := .checksumError
        snsState := .idle, snsCnt := 0#15, status := { s.status with snsDone := true } }

/-- 42_sensor.md R181: dq_oe is 1 in a tick iff its sensor phase began in START_LOW (which an SNS_START accepted in that tick
enters), and in IDLE, START_LOW and RELEASE dq_in is ignored. -/
def Obligations.LineDrivenOnlyInStartLow : Prop :=
  (∀ s t : State, (tickInput s).rst = false → step s = .next t →
    (t.dqOe = true ↔ s.snsState = .startLow ∨ (s.snsState = .idle ∧ isSnsStart (tickInput s).bus = true))) ∧
  (∀ (s : State) (inp : TickInput) (d : Bool),
    s.snsState = .idle ∨ s.snsState = .startLow ∨ s.snsState = .release →
    tick { inp with dqIn := d } s = tick inp s)

/-- A bit flip in any byte of a payload whose checksum holds is detected (42_sensor.md R210, R185). -/
def Obligations.SingleBitFlipBreaksChecksum : Prop :=
  ∀ (p q : Vector Byte 5) (j k : Nat) (_ : j < 5), k < 8 →
    (p[4]).toNat = ((p[0]).toNat + (p[1]).toNat + (p[2]).toNat + (p[3]).toNat) % 256 →
    (∀ (i : Nat) (_ : i < 5), q[i] = if i = j then p[i] ^^^ (1#8 <<< k) else p[i]) →
    checksumHolds p = true ∧ checksumHolds q = false

/-- SNS_DATA0, SNS_DATA1 and SNS_RESULT change only while a read is in progress and at the accepted SNS_START (70_reset_and_hazards.md
R297). -/
def Obligations.SensorDataStableWhileIdle : Prop :=
  ∀ s t : State, (tickInput s).rst = false → step s = .next t → s.snsState = .idle →
    isSnsStart (tickInput s).bus = false →
    t.payload = s.payload ∧ t.snsCode = s.snsCode ∧ t.snsNbits = s.snsNbits ∧ t.snsState = .idle

/-- A read in progress cannot be cancelled (42_sensor.md R211): whatever request the host makes in a tick, the reader goes on as
with any other. -/
def Obligations.ReadCannotBeCancelled : Prop :=
  ∀ (s t u : State) (inp : TickInput) (b : Option BusRequest), s.snsState ≠ .idle → inp.rst = false →
    tick inp s = .next t → tick { inp with bus := b } s = .next u →
    u.snsState = t.snsState ∧ u.snsCnt = t.snsCnt ∧ u.snsNbits = t.snsNbits ∧ u.payload = t.payload ∧
    u.snsCode = t.snsCode ∧ u.dqOe = t.dqOe

/-- The start condition's timing (42_sensor.md R187–R190, R208): from the tick of an accepted SNS_START on, the line is low for exactly
18000 ticks and released for exactly T_REL, and then RESP_LOW begins, whatever the host does within its contract. -/
def Obligations.StartConditionTiming : Prop :=
  ∀ (s : State) (inp : TickInput) (rest : List TickInput), s.snsState = .idle → s.inputs = inp :: rest →
    isSnsStart inp.bus = true →
    (∀ x ∈ inp :: rest, x.rst = false ∧ requestInContract x.bus = true) →
    ∀ n, 1 ≤ n → n ≤ 18000 + s.cfg.tRel → n ≤ (inp :: rest).length →
      ∃ t, core.run n s = .next t ∧
        (t.dqOe = true ↔ n ≤ 18000) ∧
        (n < 18000 → t.snsState = .startLow ∧ t.snsCnt.toNat = n) ∧
        (18000 ≤ n ∧ n < 18000 + s.cfg.tRel → t.snsState = .release ∧ t.snsCnt.toNat = n - 18000) ∧
        (n = 18000 + s.cfg.tRel → t.snsState = .respLow ∧ t.snsCnt = 0#15)

/-- Every read ends (42_sensor.md R183, R208): at the latest 7900 ticks after the release ends, with SNS_DONE set and a result code,
whatever the line does, as long as no reset intervenes. The lower bound is the model's choice in a contradiction of the spec (log
entry 21): R208 and R304 say 83 ticks after the release of every read, R202 with its limit of 70 ends bit b (its number is NBITS) by a
BitStartTimeout from 73 + 2b on, before 83 for the bits 0 to 4. Every other finish is at 83 or later, and a
ResponseLowTimeout at exactly 100. -/
def Obligations.EveryReadFinishesInTime : Prop :=
  ∀ (s : State) (inp : TickInput) (rest : List TickInput), s.snsState = .idle → s.inputs = inp :: rest →
    isSnsStart inp.bus = true →
    (∀ x ∈ inp :: rest, x.rst = false ∧ requestInContract x.bus = true) →
    18000 + s.cfg.tRel + 7900 ≤ (inp :: rest).length →
    ∃ n t, 18000 + s.cfg.tRel + 73 ≤ n ∧ n ≤ 18000 + s.cfg.tRel + 7900 ∧ core.run n s = .next t ∧
      t.snsState = .idle ∧ t.snsCode ≠ .noCode ∧ t.status.snsDone = true ∧
      (n < 18000 + s.cfg.tRel + 83 → t.snsCode = .bitStartTimeout) ∧
      (t.snsCode = .bitStartTimeout → 18000 + s.cfg.tRel + 73 + 2 * t.snsNbits.toNat ≤ n) ∧
      (t.snsCode = .responseLowTimeout → n = 18000 + s.cfg.tRel + 100) ∧
      (∀ m u, 1 ≤ m → m < n → core.run m s = .next u → u.snsState ≠ .idle ∧ u.snsCode = .noCode)

/-! ## Isolation of the two paths, and quiet -/

/-- The IR path does not depend on the sensor path or its line (60_exceptions.md R257, R268; 70_reset_and_hazards.md R305). That the draws
agree, before and after, is so that a reset tick draws the same BUF (the model's own counter, log entries 2 and 3). -/
def Obligations.IrPathIgnoresSensorPath : Prop :=
  ∀ (s s' t t' : State) (inp inp' : TickInput), SameIr s s' → s'.draws = s.draws →
    inp'.rst = inp.rst → inp'.irIn = inp.irIn → inp'.bus = inp.bus →
    tick inp s = .next t → tick inp' s' = .next t' → SameIr t t' ∧ t'.draws = t.draws

/-- The sensor path does not depend on the IR path or its input. -/
def Obligations.SensorPathIgnoresIrPath : Prop :=
  ∀ (s s' t t' : State) (inp inp' : TickInput), SameSensor s s' →
    inp'.rst = inp.rst → inp'.dqIn = inp.dqIn → inp'.bus = inp.bus →
    tick inp s = .next t → tick inp' s' = .next t' → SameSensor t t'

/-- 60_exceptions.md R266: with IR_EN = 0, the reader idle, no decode pending and no request, no state changes but NOW and
PREV_IR (and the outputs of R48, formed anew). -/
def Obligations.QuietTickChangesOnlyNowAndPrevIr : Prop :=
  ∀ (s : State) (inp : TickInput) (rest : List TickInput), CaptureInv s → s.ctrl.irEn = false → s.snsState = .idle →
    s.decPend = false → s.inputs = inp :: rest → inp.rst = false → inp.bus = none →
    step s = .next { s with
      now := (s.now + 1) % 2 ^ s.cfg.w
      prevIr := inp.irIn
      inputs := rest
      rdata := none
      dqOe := false
      irq := (s.status.irRdy && s.ctrl.irqIrEn) || (s.status.snsDone && s.ctrl.irqSnsEn) }

/-- The host's reading of source example 3's payload (42_sensor.md R212, 95_test_vectors.md X3). -/
def Obligations.SourceExampleReading : Prop :=
  humidity #v[60#8, 0#8, 25#8, 0#8, 85#8] = 60 ∧ temperatureC #v[60#8, 0#8, 25#8, 0#8, 85#8] = 25 ∧
  temperatureF #v[60#8, 0#8, 25#8, 0#8, 85#8] = 77 ∧
  ∀ p : Vector Byte 5, humidity p = (p[0]).toNat + ((p[1]).toNat : Rat) / 10 ∧
    temperatureC p = (p[2]).toNat + ((p[3]).toNat : Rat) / 10 ∧ temperatureF p = temperatureC p * 9 / 5 + 32
end

