-- ==== Sys2Proof/Laws/State.lean ====
section
/-! SUPPORT. One lemma per field and named update of State, so that no proof unfolds a record update. -/

namespace Sys2Proof.Machine

/-! readInto -/
@[simp] theorem readInto_cfg (v : Word) (s : State) : (readInto v s).cfg = s.cfg := rfl
@[simp] theorem readInto_ctrl (v : Word) (s : State) : (readInto v s).ctrl = s.ctrl := rfl
@[simp] theorem readInto_status (v : Word) (s : State) : (readInto v s).status = s.status := rfl
@[simp] theorem readInto_irResult (v : Word) (s : State) : (readInto v s).irResult = s.irResult := rfl
@[simp] theorem readInto_irRaw (v : Word) (s : State) : (readInto v s).irRaw = s.irRaw := rfl
@[simp] theorem readInto_irLen (v : Word) (s : State) : (readInto v s).irLen = s.irLen := rfl
@[simp] theorem readInto_snsCode (v : Word) (s : State) : (readInto v s).snsCode = s.snsCode := rfl
@[simp] theorem readInto_snsNbits (v : Word) (s : State) : (readInto v s).snsNbits = s.snsNbits := rfl
@[simp] theorem readInto_snsState (v : Word) (s : State) : (readInto v s).snsState = s.snsState := rfl
@[simp] theorem readInto_payload (v : Word) (s : State) : (readInto v s).payload = s.payload := rfl
@[simp] theorem readInto_now (v : Word) (s : State) : (readInto v s).now = s.now := rfl
@[simp] theorem readInto_prevIr (v : Word) (s : State) : (readInto v s).prevIr = s.prevIr := rfl
@[simp] theorem readInto_last (v : Word) (s : State) : (readInto v s).last = s.last := rfl
@[simp] theorem readInto_baseValid (v : Word) (s : State) : (readInto v s).baseValid = s.baseValid := rfl
@[simp] theorem readInto_toArmed (v : Word) (s : State) : (readInto v s).toArmed = s.toArmed := rfl
@[simp] theorem readInto_idx (v : Word) (s : State) : (readInto v s).idx = s.idx := rfl
@[simp] theorem readInto_active (v : Word) (s : State) : (readInto v s).active = s.active := rfl
@[simp] theorem readInto_decLen (v : Word) (s : State) : (readInto v s).decLen = s.decLen := rfl
@[simp] theorem readInto_decPend (v : Word) (s : State) : (readInto v s).decPend = s.decPend := rfl
@[simp] theorem readInto_buf (v : Word) (s : State) : (readInto v s).buf = s.buf := rfl
@[simp] theorem readInto_bufDraw (v : Word) (s : State) : (readInto v s).bufDraw = s.bufDraw := rfl
@[simp] theorem readInto_snsCnt (v : Word) (s : State) : (readInto v s).snsCnt = s.snsCnt := rfl
@[simp] theorem readInto_dqOe (v : Word) (s : State) : (readInto v s).dqOe = s.dqOe := rfl
@[simp] theorem readInto_irq (v : Word) (s : State) : (readInto v s).irq = s.irq := rfl
@[simp] theorem readInto_rdata (v : Word) (s : State) : (readInto v s).rdata = some v := rfl
@[simp] theorem readInto_inputs (v : Word) (s : State) : (readInto v s).inputs = s.inputs := rfl
@[simp] theorem readInto_draws (v : Word) (s : State) : (readInto v s).draws = s.draws := rfl

/-! noData -/
@[simp] theorem noData_cfg (s : State) : (noData s).cfg = s.cfg := rfl
@[simp] theorem noData_ctrl (s : State) : (noData s).ctrl = s.ctrl := rfl
@[simp] theorem noData_status (s : State) : (noData s).status = s.status := rfl
@[simp] theorem noData_irResult (s : State) : (noData s).irResult = s.irResult := rfl
@[simp] theorem noData_irRaw (s : State) : (noData s).irRaw = s.irRaw := rfl
@[simp] theorem noData_irLen (s : State) : (noData s).irLen = s.irLen := rfl
@[simp] theorem noData_snsCode (s : State) : (noData s).snsCode = s.snsCode := rfl
@[simp] theorem noData_snsNbits (s : State) : (noData s).snsNbits = s.snsNbits := rfl
@[simp] theorem noData_snsState (s : State) : (noData s).snsState = s.snsState := rfl
@[simp] theorem noData_payload (s : State) : (noData s).payload = s.payload := rfl
@[simp] theorem noData_now (s : State) : (noData s).now = s.now := rfl
@[simp] theorem noData_prevIr (s : State) : (noData s).prevIr = s.prevIr := rfl
@[simp] theorem noData_last (s : State) : (noData s).last = s.last := rfl
@[simp] theorem noData_baseValid (s : State) : (noData s).baseValid = s.baseValid := rfl
@[simp] theorem noData_toArmed (s : State) : (noData s).toArmed = s.toArmed := rfl
@[simp] theorem noData_idx (s : State) : (noData s).idx = s.idx := rfl
@[simp] theorem noData_active (s : State) : (noData s).active = s.active := rfl
@[simp] theorem noData_decLen (s : State) : (noData s).decLen = s.decLen := rfl
@[simp] theorem noData_decPend (s : State) : (noData s).decPend = s.decPend := rfl
@[simp] theorem noData_buf (s : State) : (noData s).buf = s.buf := rfl
@[simp] theorem noData_bufDraw (s : State) : (noData s).bufDraw = s.bufDraw := rfl
@[simp] theorem noData_snsCnt (s : State) : (noData s).snsCnt = s.snsCnt := rfl
@[simp] theorem noData_dqOe (s : State) : (noData s).dqOe = s.dqOe := rfl
@[simp] theorem noData_irq (s : State) : (noData s).irq = s.irq := rfl
@[simp] theorem noData_rdata (s : State) : (noData s).rdata = none := rfl
@[simp] theorem noData_inputs (s : State) : (noData s).inputs = s.inputs := rfl
@[simp] theorem noData_draws (s : State) : (noData s).draws = s.draws := rfl

/-! writeCtrl -/
@[simp] theorem writeCtrl_cfg (w : Word) (s : State) : (writeCtrl w s).cfg = s.cfg := rfl
@[simp] theorem writeCtrl_ctrl (w : Word) (s : State) : (writeCtrl w s).ctrl = ⟨w.getLsbD 0, w.getLsbD 1, w.getLsbD 2⟩ := rfl
@[simp] theorem writeCtrl_status (w : Word) (s : State) : (writeCtrl w s).status = s.status := rfl
@[simp] theorem writeCtrl_irResult (w : Word) (s : State) : (writeCtrl w s).irResult = s.irResult := rfl
@[simp] theorem writeCtrl_irRaw (w : Word) (s : State) : (writeCtrl w s).irRaw = s.irRaw := rfl
@[simp] theorem writeCtrl_irLen (w : Word) (s : State) : (writeCtrl w s).irLen = s.irLen := rfl
@[simp] theorem writeCtrl_snsCode (w : Word) (s : State) : (writeCtrl w s).snsCode = s.snsCode := rfl
@[simp] theorem writeCtrl_snsNbits (w : Word) (s : State) : (writeCtrl w s).snsNbits = s.snsNbits := rfl
@[simp] theorem writeCtrl_snsState (w : Word) (s : State) : (writeCtrl w s).snsState = s.snsState := rfl
@[simp] theorem writeCtrl_payload (w : Word) (s : State) : (writeCtrl w s).payload = s.payload := rfl
@[simp] theorem writeCtrl_now (w : Word) (s : State) : (writeCtrl w s).now = s.now := rfl
@[simp] theorem writeCtrl_prevIr (w : Word) (s : State) : (writeCtrl w s).prevIr = s.prevIr := rfl
@[simp] theorem writeCtrl_last (w : Word) (s : State) : (writeCtrl w s).last = s.last := rfl
@[simp] theorem writeCtrl_baseValid (w : Word) (s : State) : (writeCtrl w s).baseValid = s.baseValid := rfl
@[simp] theorem writeCtrl_toArmed (w : Word) (s : State) : (writeCtrl w s).toArmed = s.toArmed := rfl
@[simp] theorem writeCtrl_idx (w : Word) (s : State) : (writeCtrl w s).idx = s.idx := rfl
@[simp] theorem writeCtrl_active (w : Word) (s : State) : (writeCtrl w s).active = s.active := rfl
@[simp] theorem writeCtrl_decLen (w : Word) (s : State) : (writeCtrl w s).decLen = s.decLen := rfl
@[simp] theorem writeCtrl_decPend (w : Word) (s : State) : (writeCtrl w s).decPend = s.decPend := rfl
@[simp] theorem writeCtrl_buf (w : Word) (s : State) : (writeCtrl w s).buf = s.buf := rfl
@[simp] theorem writeCtrl_bufDraw (w : Word) (s : State) : (writeCtrl w s).bufDraw = s.bufDraw := rfl
@[simp] theorem writeCtrl_snsCnt (w : Word) (s : State) : (writeCtrl w s).snsCnt = s.snsCnt := rfl
@[simp] theorem writeCtrl_dqOe (w : Word) (s : State) : (writeCtrl w s).dqOe = s.dqOe := rfl
@[simp] theorem writeCtrl_irq (w : Word) (s : State) : (writeCtrl w s).irq = s.irq := rfl
@[simp] theorem writeCtrl_rdata (w : Word) (s : State) : (writeCtrl w s).rdata = s.rdata := rfl
@[simp] theorem writeCtrl_inputs (w : Word) (s : State) : (writeCtrl w s).inputs = s.inputs := rfl
@[simp] theorem writeCtrl_draws (w : Word) (s : State) : (writeCtrl w s).draws = s.draws := rfl

/-! edgeBookkeeping -/
@[simp] theorem edgeBookkeeping_cfg (s : State) : (edgeBookkeeping s).cfg = s.cfg := rfl
@[simp] theorem edgeBookkeeping_ctrl (s : State) : (edgeBookkeeping s).ctrl = s.ctrl := rfl
@[simp] theorem edgeBookkeeping_status (s : State) : (edgeBookkeeping s).status = s.status := rfl
@[simp] theorem edgeBookkeeping_irResult (s : State) : (edgeBookkeeping s).irResult = s.irResult := rfl
@[simp] theorem edgeBookkeeping_irRaw (s : State) : (edgeBookkeeping s).irRaw = s.irRaw := rfl
@[simp] theorem edgeBookkeeping_irLen (s : State) : (edgeBookkeeping s).irLen = s.irLen := rfl
@[simp] theorem edgeBookkeeping_snsCode (s : State) : (edgeBookkeeping s).snsCode = s.snsCode := rfl
@[simp] theorem edgeBookkeeping_snsNbits (s : State) : (edgeBookkeeping s).snsNbits = s.snsNbits := rfl
@[simp] theorem edgeBookkeeping_snsState (s : State) : (edgeBookkeeping s).snsState = s.snsState := rfl
@[simp] theorem edgeBookkeeping_payload (s : State) : (edgeBookkeeping s).payload = s.payload := rfl
@[simp] theorem edgeBookkeeping_now (s : State) : (edgeBookkeeping s).now = s.now := rfl
@[simp] theorem edgeBookkeeping_prevIr (s : State) : (edgeBookkeeping s).prevIr = s.prevIr := rfl
@[simp] theorem edgeBookkeeping_last (s : State) : (edgeBookkeeping s).last = s.now := rfl
@[simp] theorem edgeBookkeeping_baseValid (s : State) : (edgeBookkeeping s).baseValid = s.baseValid := rfl
@[simp] theorem edgeBookkeeping_toArmed (s : State) : (edgeBookkeeping s).toArmed = true := rfl
@[simp] theorem edgeBookkeeping_idx (s : State) : (edgeBookkeeping s).idx = s.idx := rfl
@[simp] theorem edgeBookkeeping_active (s : State) : (edgeBookkeeping s).active = s.active := rfl
@[simp] theorem edgeBookkeeping_decLen (s : State) : (edgeBookkeeping s).decLen = s.decLen := rfl
@[simp] theorem edgeBookkeeping_decPend (s : State) : (edgeBookkeeping s).decPend = s.decPend := rfl
@[simp] theorem edgeBookkeeping_buf (s : State) : (edgeBookkeeping s).buf = s.buf := rfl
@[simp] theorem edgeBookkeeping_bufDraw (s : State) : (edgeBookkeeping s).bufDraw = s.bufDraw := rfl
@[simp] theorem edgeBookkeeping_snsCnt (s : State) : (edgeBookkeeping s).snsCnt = s.snsCnt := rfl
@[simp] theorem edgeBookkeeping_dqOe (s : State) : (edgeBookkeeping s).dqOe = s.dqOe := rfl
@[simp] theorem edgeBookkeeping_irq (s : State) : (edgeBookkeeping s).irq = s.irq := rfl
@[simp] theorem edgeBookkeeping_rdata (s : State) : (edgeBookkeeping s).rdata = s.rdata := rfl
@[simp] theorem edgeBookkeeping_inputs (s : State) : (edgeBookkeeping s).inputs = s.inputs := rfl
@[simp] theorem edgeBookkeeping_draws (s : State) : (edgeBookkeeping s).draws = s.draws := rfl

/-! swap -/
@[simp] theorem swap_cfg (s : State) : (swap s).cfg = s.cfg := rfl
@[simp] theorem swap_ctrl (s : State) : (swap s).ctrl = s.ctrl := rfl
@[simp] theorem swap_status (s : State) : (swap s).status = s.status := rfl
@[simp] theorem swap_irResult (s : State) : (swap s).irResult = s.irResult := rfl
@[simp] theorem swap_irRaw (s : State) : (swap s).irRaw = s.irRaw := rfl
@[simp] theorem swap_irLen (s : State) : (swap s).irLen = s.irLen := rfl
@[simp] theorem swap_snsCode (s : State) : (swap s).snsCode = s.snsCode := rfl
@[simp] theorem swap_snsNbits (s : State) : (swap s).snsNbits = s.snsNbits := rfl
@[simp] theorem swap_snsState (s : State) : (swap s).snsState = s.snsState := rfl
@[simp] theorem swap_payload (s : State) : (swap s).payload = s.payload := rfl
@[simp] theorem swap_now (s : State) : (swap s).now = s.now := rfl
@[simp] theorem swap_prevIr (s : State) : (swap s).prevIr = s.prevIr := rfl
@[simp] theorem swap_last (s : State) : (swap s).last = s.last := rfl
@[simp] theorem swap_baseValid (s : State) : (swap s).baseValid = s.baseValid := rfl
@[simp] theorem swap_toArmed (s : State) : (swap s).toArmed = s.toArmed := rfl
@[simp] theorem swap_idx (s : State) : (swap s).idx = s.idx := rfl
@[simp] theorem swap_active (s : State) : (swap s).active = !s.active := rfl
@[simp] theorem swap_decLen (s : State) : (swap s).decLen = s.idx := rfl
@[simp] theorem swap_decPend (s : State) : (swap s).decPend = true := rfl
@[simp] theorem swap_buf (s : State) : (swap s).buf = s.buf := rfl
@[simp] theorem swap_bufDraw (s : State) : (swap s).bufDraw = s.bufDraw := rfl
@[simp] theorem swap_snsCnt (s : State) : (swap s).snsCnt = s.snsCnt := rfl
@[simp] theorem swap_dqOe (s : State) : (swap s).dqOe = s.dqOe := rfl
@[simp] theorem swap_irq (s : State) : (swap s).irq = s.irq := rfl
@[simp] theorem swap_rdata (s : State) : (swap s).rdata = s.rdata := rfl
@[simp] theorem swap_inputs (s : State) : (swap s).inputs = s.inputs := rfl
@[simp] theorem swap_draws (s : State) : (swap s).draws = s.draws := rfl

/-! captureIdle -/
@[simp] theorem captureIdle_cfg (s : State) : (captureIdle s).cfg = s.cfg := rfl
@[simp] theorem captureIdle_ctrl (s : State) : (captureIdle s).ctrl = s.ctrl := rfl
@[simp] theorem captureIdle_status (s : State) : (captureIdle s).status = s.status := rfl
@[simp] theorem captureIdle_irResult (s : State) : (captureIdle s).irResult = s.irResult := rfl
@[simp] theorem captureIdle_irRaw (s : State) : (captureIdle s).irRaw = s.irRaw := rfl
@[simp] theorem captureIdle_irLen (s : State) : (captureIdle s).irLen = s.irLen := rfl
@[simp] theorem captureIdle_snsCode (s : State) : (captureIdle s).snsCode = s.snsCode := rfl
@[simp] theorem captureIdle_snsNbits (s : State) : (captureIdle s).snsNbits = s.snsNbits := rfl
@[simp] theorem captureIdle_snsState (s : State) : (captureIdle s).snsState = s.snsState := rfl
@[simp] theorem captureIdle_payload (s : State) : (captureIdle s).payload = s.payload := rfl
@[simp] theorem captureIdle_now (s : State) : (captureIdle s).now = s.now := rfl
@[simp] theorem captureIdle_prevIr (s : State) : (captureIdle s).prevIr = s.prevIr := rfl
@[simp] theorem captureIdle_last (s : State) : (captureIdle s).last = s.last := rfl
@[simp] theorem captureIdle_baseValid (s : State) : (captureIdle s).baseValid = false := rfl
@[simp] theorem captureIdle_toArmed (s : State) : (captureIdle s).toArmed = false := rfl
@[simp] theorem captureIdle_idx (s : State) : (captureIdle s).idx = 0#16 := rfl
@[simp] theorem captureIdle_active (s : State) : (captureIdle s).active = s.active := rfl
@[simp] theorem captureIdle_decLen (s : State) : (captureIdle s).decLen = s.decLen := rfl
@[simp] theorem captureIdle_decPend (s : State) : (captureIdle s).decPend = s.decPend := rfl
@[simp] theorem captureIdle_buf (s : State) : (captureIdle s).buf = s.buf := rfl
@[simp] theorem captureIdle_bufDraw (s : State) : (captureIdle s).bufDraw = s.bufDraw := rfl
@[simp] theorem captureIdle_snsCnt (s : State) : (captureIdle s).snsCnt = s.snsCnt := rfl
@[simp] theorem captureIdle_dqOe (s : State) : (captureIdle s).dqOe = s.dqOe := rfl
@[simp] theorem captureIdle_irq (s : State) : (captureIdle s).irq = s.irq := rfl
@[simp] theorem captureIdle_rdata (s : State) : (captureIdle s).rdata = s.rdata := rfl
@[simp] theorem captureIdle_inputs (s : State) : (captureIdle s).inputs = s.inputs := rfl
@[simp] theorem captureIdle_draws (s : State) : (captureIdle s).draws = s.draws := rfl

/-! clearIdx -/
@[simp] theorem clearIdx_cfg (s : State) : (clearIdx s).cfg = s.cfg := rfl
@[simp] theorem clearIdx_ctrl (s : State) : (clearIdx s).ctrl = s.ctrl := rfl
@[simp] theorem clearIdx_status (s : State) : (clearIdx s).status = s.status := rfl
@[simp] theorem clearIdx_irResult (s : State) : (clearIdx s).irResult = s.irResult := rfl
@[simp] theorem clearIdx_irRaw (s : State) : (clearIdx s).irRaw = s.irRaw := rfl
@[simp] theorem clearIdx_irLen (s : State) : (clearIdx s).irLen = s.irLen := rfl
@[simp] theorem clearIdx_snsCode (s : State) : (clearIdx s).snsCode = s.snsCode := rfl
@[simp] theorem clearIdx_snsNbits (s : State) : (clearIdx s).snsNbits = s.snsNbits := rfl
@[simp] theorem clearIdx_snsState (s : State) : (clearIdx s).snsState = s.snsState := rfl
@[simp] theorem clearIdx_payload (s : State) : (clearIdx s).payload = s.payload := rfl
@[simp] theorem clearIdx_now (s : State) : (clearIdx s).now = s.now := rfl
@[simp] theorem clearIdx_prevIr (s : State) : (clearIdx s).prevIr = s.prevIr := rfl
@[simp] theorem clearIdx_last (s : State) : (clearIdx s).last = s.last := rfl
@[simp] theorem clearIdx_baseValid (s : State) : (clearIdx s).baseValid = s.baseValid := rfl
@[simp] theorem clearIdx_toArmed (s : State) : (clearIdx s).toArmed = s.toArmed := rfl
@[simp] theorem clearIdx_idx (s : State) : (clearIdx s).idx = 0#16 := rfl
@[simp] theorem clearIdx_active (s : State) : (clearIdx s).active = s.active := rfl
@[simp] theorem clearIdx_decLen (s : State) : (clearIdx s).decLen = s.decLen := rfl
@[simp] theorem clearIdx_decPend (s : State) : (clearIdx s).decPend = s.decPend := rfl
@[simp] theorem clearIdx_buf (s : State) : (clearIdx s).buf = s.buf := rfl
@[simp] theorem clearIdx_bufDraw (s : State) : (clearIdx s).bufDraw = s.bufDraw := rfl
@[simp] theorem clearIdx_snsCnt (s : State) : (clearIdx s).snsCnt = s.snsCnt := rfl
@[simp] theorem clearIdx_dqOe (s : State) : (clearIdx s).dqOe = s.dqOe := rfl
@[simp] theorem clearIdx_irq (s : State) : (clearIdx s).irq = s.irq := rfl
@[simp] theorem clearIdx_rdata (s : State) : (clearIdx s).rdata = s.rdata := rfl
@[simp] theorem clearIdx_inputs (s : State) : (clearIdx s).inputs = s.inputs := rfl
@[simp] theorem clearIdx_draws (s : State) : (clearIdx s).draws = s.draws := rfl

/-! sampleIr -/
@[simp] theorem sampleIr_cfg (b : Bool) (s : State) : (sampleIr b s).cfg = s.cfg := rfl
@[simp] theorem sampleIr_ctrl (b : Bool) (s : State) : (sampleIr b s).ctrl = s.ctrl := rfl
@[simp] theorem sampleIr_status (b : Bool) (s : State) : (sampleIr b s).status = s.status := rfl
@[simp] theorem sampleIr_irResult (b : Bool) (s : State) : (sampleIr b s).irResult = s.irResult := rfl
@[simp] theorem sampleIr_irRaw (b : Bool) (s : State) : (sampleIr b s).irRaw = s.irRaw := rfl
@[simp] theorem sampleIr_irLen (b : Bool) (s : State) : (sampleIr b s).irLen = s.irLen := rfl
@[simp] theorem sampleIr_snsCode (b : Bool) (s : State) : (sampleIr b s).snsCode = s.snsCode := rfl
@[simp] theorem sampleIr_snsNbits (b : Bool) (s : State) : (sampleIr b s).snsNbits = s.snsNbits := rfl
@[simp] theorem sampleIr_snsState (b : Bool) (s : State) : (sampleIr b s).snsState = s.snsState := rfl
@[simp] theorem sampleIr_payload (b : Bool) (s : State) : (sampleIr b s).payload = s.payload := rfl
@[simp] theorem sampleIr_now (b : Bool) (s : State) : (sampleIr b s).now = s.now := rfl
@[simp] theorem sampleIr_prevIr (b : Bool) (s : State) : (sampleIr b s).prevIr = b := rfl
@[simp] theorem sampleIr_last (b : Bool) (s : State) : (sampleIr b s).last = s.last := rfl
@[simp] theorem sampleIr_baseValid (b : Bool) (s : State) : (sampleIr b s).baseValid = s.baseValid := rfl
@[simp] theorem sampleIr_toArmed (b : Bool) (s : State) : (sampleIr b s).toArmed = s.toArmed := rfl
@[simp] theorem sampleIr_idx (b : Bool) (s : State) : (sampleIr b s).idx = s.idx := rfl
@[simp] theorem sampleIr_active (b : Bool) (s : State) : (sampleIr b s).active = s.active := rfl
@[simp] theorem sampleIr_decLen (b : Bool) (s : State) : (sampleIr b s).decLen = s.decLen := rfl
@[simp] theorem sampleIr_decPend (b : Bool) (s : State) : (sampleIr b s).decPend = s.decPend := rfl
@[simp] theorem sampleIr_buf (b : Bool) (s : State) : (sampleIr b s).buf = s.buf := rfl
@[simp] theorem sampleIr_bufDraw (b : Bool) (s : State) : (sampleIr b s).bufDraw = s.bufDraw := rfl
@[simp] theorem sampleIr_snsCnt (b : Bool) (s : State) : (sampleIr b s).snsCnt = s.snsCnt := rfl
@[simp] theorem sampleIr_dqOe (b : Bool) (s : State) : (sampleIr b s).dqOe = s.dqOe := rfl
@[simp] theorem sampleIr_irq (b : Bool) (s : State) : (sampleIr b s).irq = s.irq := rfl
@[simp] theorem sampleIr_rdata (b : Bool) (s : State) : (sampleIr b s).rdata = s.rdata := rfl
@[simp] theorem sampleIr_inputs (b : Bool) (s : State) : (sampleIr b s).inputs = s.inputs := rfl
@[simp] theorem sampleIr_draws (b : Bool) (s : State) : (sampleIr b s).draws = s.draws := rfl

/-! consumePend -/
@[simp] theorem consumePend_cfg (s : State) : (consumePend s).cfg = s.cfg := rfl
@[simp] theorem consumePend_ctrl (s : State) : (consumePend s).ctrl = s.ctrl := rfl
@[simp] theorem consumePend_status (s : State) : (consumePend s).status = s.status := rfl
@[simp] theorem consumePend_irResult (s : State) : (consumePend s).irResult = s.irResult := rfl
@[simp] theorem consumePend_irRaw (s : State) : (consumePend s).irRaw = s.irRaw := rfl
@[simp] theorem consumePend_irLen (s : State) : (consumePend s).irLen = s.irLen := rfl
@[simp] theorem consumePend_snsCode (s : State) : (consumePend s).snsCode = s.snsCode := rfl
@[simp] theorem consumePend_snsNbits (s : State) : (consumePend s).snsNbits = s.snsNbits := rfl
@[simp] theorem consumePend_snsState (s : State) : (consumePend s).snsState = s.snsState := rfl
@[simp] theorem consumePend_payload (s : State) : (consumePend s).payload = s.payload := rfl
@[simp] theorem consumePend_now (s : State) : (consumePend s).now = s.now := rfl
@[simp] theorem consumePend_prevIr (s : State) : (consumePend s).prevIr = s.prevIr := rfl
@[simp] theorem consumePend_last (s : State) : (consumePend s).last = s.last := rfl
@[simp] theorem consumePend_baseValid (s : State) : (consumePend s).baseValid = s.baseValid := rfl
@[simp] theorem consumePend_toArmed (s : State) : (consumePend s).toArmed = s.toArmed := rfl
@[simp] theorem consumePend_idx (s : State) : (consumePend s).idx = s.idx := rfl
@[simp] theorem consumePend_active (s : State) : (consumePend s).active = s.active := rfl
@[simp] theorem consumePend_decLen (s : State) : (consumePend s).decLen = s.decLen := rfl
@[simp] theorem consumePend_decPend (s : State) : (consumePend s).decPend = false := rfl
@[simp] theorem consumePend_buf (s : State) : (consumePend s).buf = s.buf := rfl
@[simp] theorem consumePend_bufDraw (s : State) : (consumePend s).bufDraw = s.bufDraw := rfl
@[simp] theorem consumePend_snsCnt (s : State) : (consumePend s).snsCnt = s.snsCnt := rfl
@[simp] theorem consumePend_dqOe (s : State) : (consumePend s).dqOe = s.dqOe := rfl
@[simp] theorem consumePend_irq (s : State) : (consumePend s).irq = s.irq := rfl
@[simp] theorem consumePend_rdata (s : State) : (consumePend s).rdata = s.rdata := rfl
@[simp] theorem consumePend_inputs (s : State) : (consumePend s).inputs = s.inputs := rfl
@[simp] theorem consumePend_draws (s : State) : (consumePend s).draws = s.draws := rfl

/-! publish -/
@[simp] theorem publish_cfg (v : Verdict) (s : State) : (publish v s).cfg = s.cfg := rfl
@[simp] theorem publish_ctrl (v : Verdict) (s : State) : (publish v s).ctrl = s.ctrl := rfl
@[simp] theorem publish_status (v : Verdict) (s : State) : (publish v s).status = flagPublish s.status := rfl
@[simp] theorem publish_irResult (v : Verdict) (s : State) : (publish v s).irResult = ⟨v.kind, v.reason, v.address, v.command, if v.kind = .data then buttonMap s.cfg v.command else unknownOrError⟩ := rfl
@[simp] theorem publish_irRaw (v : Verdict) (s : State) : (publish v s).irRaw = v.raw := rfl
@[simp] theorem publish_irLen (v : Verdict) (s : State) : (publish v s).irLen = s.decLen := rfl
@[simp] theorem publish_snsCode (v : Verdict) (s : State) : (publish v s).snsCode = s.snsCode := rfl
@[simp] theorem publish_snsNbits (v : Verdict) (s : State) : (publish v s).snsNbits = s.snsNbits := rfl
@[simp] theorem publish_snsState (v : Verdict) (s : State) : (publish v s).snsState = s.snsState := rfl
@[simp] theorem publish_payload (v : Verdict) (s : State) : (publish v s).payload = s.payload := rfl
@[simp] theorem publish_now (v : Verdict) (s : State) : (publish v s).now = s.now := rfl
@[simp] theorem publish_prevIr (v : Verdict) (s : State) : (publish v s).prevIr = s.prevIr := rfl
@[simp] theorem publish_last (v : Verdict) (s : State) : (publish v s).last = s.last := rfl
@[simp] theorem publish_baseValid (v : Verdict) (s : State) : (publish v s).baseValid = s.baseValid := rfl
@[simp] theorem publish_toArmed (v : Verdict) (s : State) : (publish v s).toArmed = s.toArmed := rfl
@[simp] theorem publish_idx (v : Verdict) (s : State) : (publish v s).idx = s.idx := rfl
@[simp] theorem publish_active (v : Verdict) (s : State) : (publish v s).active = s.active := rfl
@[simp] theorem publish_decLen (v : Verdict) (s : State) : (publish v s).decLen = s.decLen := rfl
@[simp] theorem publish_decPend (v : Verdict) (s : State) : (publish v s).decPend = s.decPend := rfl
@[simp] theorem publish_buf (v : Verdict) (s : State) : (publish v s).buf = s.buf := rfl
@[simp] theorem publish_bufDraw (v : Verdict) (s : State) : (publish v s).bufDraw = s.bufDraw := rfl
@[simp] theorem publish_snsCnt (v : Verdict) (s : State) : (publish v s).snsCnt = s.snsCnt := rfl
@[simp] theorem publish_dqOe (v : Verdict) (s : State) : (publish v s).dqOe = s.dqOe := rfl
@[simp] theorem publish_irq (v : Verdict) (s : State) : (publish v s).irq = s.irq := rfl
@[simp] theorem publish_rdata (v : Verdict) (s : State) : (publish v s).rdata = s.rdata := rfl
@[simp] theorem publish_inputs (v : Verdict) (s : State) : (publish v s).inputs = s.inputs := rfl
@[simp] theorem publish_draws (v : Verdict) (s : State) : (publish v s).draws = s.draws := rfl

/-! driveLine -/
@[simp] theorem driveLine_cfg (s : State) : (driveLine s).cfg = s.cfg := rfl
@[simp] theorem driveLine_ctrl (s : State) : (driveLine s).ctrl = s.ctrl := rfl
@[simp] theorem driveLine_status (s : State) : (driveLine s).status = s.status := rfl
@[simp] theorem driveLine_irResult (s : State) : (driveLine s).irResult = s.irResult := rfl
@[simp] theorem driveLine_irRaw (s : State) : (driveLine s).irRaw = s.irRaw := rfl
@[simp] theorem driveLine_irLen (s : State) : (driveLine s).irLen = s.irLen := rfl
@[simp] theorem driveLine_snsCode (s : State) : (driveLine s).snsCode = s.snsCode := rfl
@[simp] theorem driveLine_snsNbits (s : State) : (driveLine s).snsNbits = s.snsNbits := rfl
@[simp] theorem driveLine_snsState (s : State) : (driveLine s).snsState = s.snsState := rfl
@[simp] theorem driveLine_payload (s : State) : (driveLine s).payload = s.payload := rfl
@[simp] theorem driveLine_now (s : State) : (driveLine s).now = s.now := rfl
@[simp] theorem driveLine_prevIr (s : State) : (driveLine s).prevIr = s.prevIr := rfl
@[simp] theorem driveLine_last (s : State) : (driveLine s).last = s.last := rfl
@[simp] theorem driveLine_baseValid (s : State) : (driveLine s).baseValid = s.baseValid := rfl
@[simp] theorem driveLine_toArmed (s : State) : (driveLine s).toArmed = s.toArmed := rfl
@[simp] theorem driveLine_idx (s : State) : (driveLine s).idx = s.idx := rfl
@[simp] theorem driveLine_active (s : State) : (driveLine s).active = s.active := rfl
@[simp] theorem driveLine_decLen (s : State) : (driveLine s).decLen = s.decLen := rfl
@[simp] theorem driveLine_decPend (s : State) : (driveLine s).decPend = s.decPend := rfl
@[simp] theorem driveLine_buf (s : State) : (driveLine s).buf = s.buf := rfl
@[simp] theorem driveLine_bufDraw (s : State) : (driveLine s).bufDraw = s.bufDraw := rfl
@[simp] theorem driveLine_snsCnt (s : State) : (driveLine s).snsCnt = s.snsCnt := rfl
@[simp] theorem driveLine_dqOe (s : State) : (driveLine s).dqOe = (s.snsState == .startLow) := rfl
@[simp] theorem driveLine_irq (s : State) : (driveLine s).irq = s.irq := rfl
@[simp] theorem driveLine_rdata (s : State) : (driveLine s).rdata = s.rdata := rfl
@[simp] theorem driveLine_inputs (s : State) : (driveLine s).inputs = s.inputs := rfl
@[simp] theorem driveLine_draws (s : State) : (driveLine s).draws = s.draws := rfl

/-! stay -/
@[simp] theorem stay_cfg (s : State) : (stay s).cfg = s.cfg := rfl
@[simp] theorem stay_ctrl (s : State) : (stay s).ctrl = s.ctrl := rfl
@[simp] theorem stay_status (s : State) : (stay s).status = s.status := rfl
@[simp] theorem stay_irResult (s : State) : (stay s).irResult = s.irResult := rfl
@[simp] theorem stay_irRaw (s : State) : (stay s).irRaw = s.irRaw := rfl
@[simp] theorem stay_irLen (s : State) : (stay s).irLen = s.irLen := rfl
@[simp] theorem stay_snsCode (s : State) : (stay s).snsCode = s.snsCode := rfl
@[simp] theorem stay_snsNbits (s : State) : (stay s).snsNbits = s.snsNbits := rfl
@[simp] theorem stay_snsState (s : State) : (stay s).snsState = s.snsState := rfl
@[simp] theorem stay_payload (s : State) : (stay s).payload = s.payload := rfl
@[simp] theorem stay_now (s : State) : (stay s).now = s.now := rfl
@[simp] theorem stay_prevIr (s : State) : (stay s).prevIr = s.prevIr := rfl
@[simp] theorem stay_last (s : State) : (stay s).last = s.last := rfl
@[simp] theorem stay_baseValid (s : State) : (stay s).baseValid = s.baseValid := rfl
@[simp] theorem stay_toArmed (s : State) : (stay s).toArmed = s.toArmed := rfl
@[simp] theorem stay_idx (s : State) : (stay s).idx = s.idx := rfl
@[simp] theorem stay_active (s : State) : (stay s).active = s.active := rfl
@[simp] theorem stay_decLen (s : State) : (stay s).decLen = s.decLen := rfl
@[simp] theorem stay_decPend (s : State) : (stay s).decPend = s.decPend := rfl
@[simp] theorem stay_buf (s : State) : (stay s).buf = s.buf := rfl
@[simp] theorem stay_bufDraw (s : State) : (stay s).bufDraw = s.bufDraw := rfl
@[simp] theorem stay_snsCnt (s : State) : (stay s).snsCnt = BitVec.ofNat 15 (elapsed s) := rfl
@[simp] theorem stay_dqOe (s : State) : (stay s).dqOe = s.dqOe := rfl
@[simp] theorem stay_irq (s : State) : (stay s).irq = s.irq := rfl
@[simp] theorem stay_rdata (s : State) : (stay s).rdata = s.rdata := rfl
@[simp] theorem stay_inputs (s : State) : (stay s).inputs = s.inputs := rfl
@[simp] theorem stay_draws (s : State) : (stay s).draws = s.draws := rfl

/-! moveTo -/
@[simp] theorem moveTo_cfg (x : SnsState) (s : State) : (moveTo x s).cfg = s.cfg := rfl
@[simp] theorem moveTo_ctrl (x : SnsState) (s : State) : (moveTo x s).ctrl = s.ctrl := rfl
@[simp] theorem moveTo_status (x : SnsState) (s : State) : (moveTo x s).status = s.status := rfl
@[simp] theorem moveTo_irResult (x : SnsState) (s : State) : (moveTo x s).irResult = s.irResult := rfl
@[simp] theorem moveTo_irRaw (x : SnsState) (s : State) : (moveTo x s).irRaw = s.irRaw := rfl
@[simp] theorem moveTo_irLen (x : SnsState) (s : State) : (moveTo x s).irLen = s.irLen := rfl
@[simp] theorem moveTo_snsCode (x : SnsState) (s : State) : (moveTo x s).snsCode = s.snsCode := rfl
@[simp] theorem moveTo_snsNbits (x : SnsState) (s : State) : (moveTo x s).snsNbits = s.snsNbits := rfl
@[simp] theorem moveTo_snsState (x : SnsState) (s : State) : (moveTo x s).snsState = x := rfl
@[simp] theorem moveTo_payload (x : SnsState) (s : State) : (moveTo x s).payload = s.payload := rfl
@[simp] theorem moveTo_now (x : SnsState) (s : State) : (moveTo x s).now = s.now := rfl
@[simp] theorem moveTo_prevIr (x : SnsState) (s : State) : (moveTo x s).prevIr = s.prevIr := rfl
@[simp] theorem moveTo_last (x : SnsState) (s : State) : (moveTo x s).last = s.last := rfl
@[simp] theorem moveTo_baseValid (x : SnsState) (s : State) : (moveTo x s).baseValid = s.baseValid := rfl
@[simp] theorem moveTo_toArmed (x : SnsState) (s : State) : (moveTo x s).toArmed = s.toArmed := rfl
@[simp] theorem moveTo_idx (x : SnsState) (s : State) : (moveTo x s).idx = s.idx := rfl
@[simp] theorem moveTo_active (x : SnsState) (s : State) : (moveTo x s).active = s.active := rfl
@[simp] theorem moveTo_decLen (x : SnsState) (s : State) : (moveTo x s).decLen = s.decLen := rfl
@[simp] theorem moveTo_decPend (x : SnsState) (s : State) : (moveTo x s).decPend = s.decPend := rfl
@[simp] theorem moveTo_buf (x : SnsState) (s : State) : (moveTo x s).buf = s.buf := rfl
@[simp] theorem moveTo_bufDraw (x : SnsState) (s : State) : (moveTo x s).bufDraw = s.bufDraw := rfl
@[simp] theorem moveTo_snsCnt (x : SnsState) (s : State) : (moveTo x s).snsCnt = 0#15 := rfl
@[simp] theorem moveTo_dqOe (x : SnsState) (s : State) : (moveTo x s).dqOe = s.dqOe := rfl
@[simp] theorem moveTo_irq (x : SnsState) (s : State) : (moveTo x s).irq = s.irq := rfl
@[simp] theorem moveTo_rdata (x : SnsState) (s : State) : (moveTo x s).rdata = s.rdata := rfl
@[simp] theorem moveTo_inputs (x : SnsState) (s : State) : (moveTo x s).inputs = s.inputs := rfl
@[simp] theorem moveTo_draws (x : SnsState) (s : State) : (moveTo x s).draws = s.draws := rfl

/-! finish -/
@[simp] theorem finish_cfg (c : SnsCode) (s : State) : (finish c s).cfg = s.cfg := rfl
@[simp] theorem finish_ctrl (c : SnsCode) (s : State) : (finish c s).ctrl = s.ctrl := rfl
@[simp] theorem finish_status (c : SnsCode) (s : State) : (finish c s).status = flagDone s.status := rfl
@[simp] theorem finish_irResult (c : SnsCode) (s : State) : (finish c s).irResult = s.irResult := rfl
@[simp] theorem finish_irRaw (c : SnsCode) (s : State) : (finish c s).irRaw = s.irRaw := rfl
@[simp] theorem finish_irLen (c : SnsCode) (s : State) : (finish c s).irLen = s.irLen := rfl
@[simp] theorem finish_snsCode (c : SnsCode) (s : State) : (finish c s).snsCode = c := rfl
@[simp] theorem finish_snsNbits (c : SnsCode) (s : State) : (finish c s).snsNbits = s.snsNbits := rfl
@[simp] theorem finish_snsState (c : SnsCode) (s : State) : (finish c s).snsState = .idle := rfl
@[simp] theorem finish_payload (c : SnsCode) (s : State) : (finish c s).payload = s.payload := rfl
@[simp] theorem finish_now (c : SnsCode) (s : State) : (finish c s).now = s.now := rfl
@[simp] theorem finish_prevIr (c : SnsCode) (s : State) : (finish c s).prevIr = s.prevIr := rfl
@[simp] theorem finish_last (c : SnsCode) (s : State) : (finish c s).last = s.last := rfl
@[simp] theorem finish_baseValid (c : SnsCode) (s : State) : (finish c s).baseValid = s.baseValid := rfl
@[simp] theorem finish_toArmed (c : SnsCode) (s : State) : (finish c s).toArmed = s.toArmed := rfl
@[simp] theorem finish_idx (c : SnsCode) (s : State) : (finish c s).idx = s.idx := rfl
@[simp] theorem finish_active (c : SnsCode) (s : State) : (finish c s).active = s.active := rfl
@[simp] theorem finish_decLen (c : SnsCode) (s : State) : (finish c s).decLen = s.decLen := rfl
@[simp] theorem finish_decPend (c : SnsCode) (s : State) : (finish c s).decPend = s.decPend := rfl
@[simp] theorem finish_buf (c : SnsCode) (s : State) : (finish c s).buf = s.buf := rfl
@[simp] theorem finish_bufDraw (c : SnsCode) (s : State) : (finish c s).bufDraw = s.bufDraw := rfl
@[simp] theorem finish_snsCnt (c : SnsCode) (s : State) : (finish c s).snsCnt = 0#15 := rfl
@[simp] theorem finish_dqOe (c : SnsCode) (s : State) : (finish c s).dqOe = s.dqOe := rfl
@[simp] theorem finish_irq (c : SnsCode) (s : State) : (finish c s).irq = s.irq := rfl
@[simp] theorem finish_rdata (c : SnsCode) (s : State) : (finish c s).rdata = s.rdata := rfl
@[simp] theorem finish_inputs (c : SnsCode) (s : State) : (finish c s).inputs = s.inputs := rfl
@[simp] theorem finish_draws (c : SnsCode) (s : State) : (finish c s).draws = s.draws := rfl

/-! shiftBit -/
@[simp] theorem shiftBit_cfg (b : Bool) (s : State) : (shiftBit b s).cfg = s.cfg := rfl
@[simp] theorem shiftBit_ctrl (b : Bool) (s : State) : (shiftBit b s).ctrl = s.ctrl := rfl
@[simp] theorem shiftBit_status (b : Bool) (s : State) : (shiftBit b s).status = s.status := rfl
@[simp] theorem shiftBit_irResult (b : Bool) (s : State) : (shiftBit b s).irResult = s.irResult := rfl
@[simp] theorem shiftBit_irRaw (b : Bool) (s : State) : (shiftBit b s).irRaw = s.irRaw := rfl
@[simp] theorem shiftBit_irLen (b : Bool) (s : State) : (shiftBit b s).irLen = s.irLen := rfl
@[simp] theorem shiftBit_snsCode (b : Bool) (s : State) : (shiftBit b s).snsCode = s.snsCode := rfl
@[simp] theorem shiftBit_snsNbits (b : Bool) (s : State) : (shiftBit b s).snsNbits = s.snsNbits + 1#6 := rfl
@[simp] theorem shiftBit_snsState (b : Bool) (s : State) : (shiftBit b s).snsState = s.snsState := rfl
@[simp] theorem shiftBit_payload (b : Bool) (s : State) : (shiftBit b s).payload = shiftedPayload s.payload s.snsNbits b := rfl
@[simp] theorem shiftBit_now (b : Bool) (s : State) : (shiftBit b s).now = s.now := rfl
@[simp] theorem shiftBit_prevIr (b : Bool) (s : State) : (shiftBit b s).prevIr = s.prevIr := rfl
@[simp] theorem shiftBit_last (b : Bool) (s : State) : (shiftBit b s).last = s.last := rfl
@[simp] theorem shiftBit_baseValid (b : Bool) (s : State) : (shiftBit b s).baseValid = s.baseValid := rfl
@[simp] theorem shiftBit_toArmed (b : Bool) (s : State) : (shiftBit b s).toArmed = s.toArmed := rfl
@[simp] theorem shiftBit_idx (b : Bool) (s : State) : (shiftBit b s).idx = s.idx := rfl
@[simp] theorem shiftBit_active (b : Bool) (s : State) : (shiftBit b s).active = s.active := rfl
@[simp] theorem shiftBit_decLen (b : Bool) (s : State) : (shiftBit b s).decLen = s.decLen := rfl
@[simp] theorem shiftBit_decPend (b : Bool) (s : State) : (shiftBit b s).decPend = s.decPend := rfl
@[simp] theorem shiftBit_buf (b : Bool) (s : State) : (shiftBit b s).buf = s.buf := rfl
@[simp] theorem shiftBit_bufDraw (b : Bool) (s : State) : (shiftBit b s).bufDraw = s.bufDraw := rfl
@[simp] theorem shiftBit_snsCnt (b : Bool) (s : State) : (shiftBit b s).snsCnt = s.snsCnt := rfl
@[simp] theorem shiftBit_dqOe (b : Bool) (s : State) : (shiftBit b s).dqOe = s.dqOe := rfl
@[simp] theorem shiftBit_irq (b : Bool) (s : State) : (shiftBit b s).irq = s.irq := rfl
@[simp] theorem shiftBit_rdata (b : Bool) (s : State) : (shiftBit b s).rdata = s.rdata := rfl
@[simp] theorem shiftBit_inputs (b : Bool) (s : State) : (shiftBit b s).inputs = s.inputs := rfl
@[simp] theorem shiftBit_draws (b : Bool) (s : State) : (shiftBit b s).draws = s.draws := rfl

/-! endPhase -/
@[simp] theorem endPhase_cfg (s : State) : (endPhase s).cfg = s.cfg := rfl
@[simp] theorem endPhase_ctrl (s : State) : (endPhase s).ctrl = s.ctrl := rfl
@[simp] theorem endPhase_status (s : State) : (endPhase s).status = s.status := rfl
@[simp] theorem endPhase_irResult (s : State) : (endPhase s).irResult = s.irResult := rfl
@[simp] theorem endPhase_irRaw (s : State) : (endPhase s).irRaw = s.irRaw := rfl
@[simp] theorem endPhase_irLen (s : State) : (endPhase s).irLen = s.irLen := rfl
@[simp] theorem endPhase_snsCode (s : State) : (endPhase s).snsCode = s.snsCode := rfl
@[simp] theorem endPhase_snsNbits (s : State) : (endPhase s).snsNbits = s.snsNbits := rfl
@[simp] theorem endPhase_snsState (s : State) : (endPhase s).snsState = s.snsState := rfl
@[simp] theorem endPhase_payload (s : State) : (endPhase s).payload = s.payload := rfl
@[simp] theorem endPhase_now (s : State) : (endPhase s).now = (s.now + 1) % 2 ^ s.cfg.w := rfl
@[simp] theorem endPhase_prevIr (s : State) : (endPhase s).prevIr = s.prevIr := rfl
@[simp] theorem endPhase_last (s : State) : (endPhase s).last = s.last := rfl
@[simp] theorem endPhase_baseValid (s : State) : (endPhase s).baseValid = s.baseValid := rfl
@[simp] theorem endPhase_toArmed (s : State) : (endPhase s).toArmed = s.toArmed := rfl
@[simp] theorem endPhase_idx (s : State) : (endPhase s).idx = s.idx := rfl
@[simp] theorem endPhase_active (s : State) : (endPhase s).active = s.active := rfl
@[simp] theorem endPhase_decLen (s : State) : (endPhase s).decLen = s.decLen := rfl
@[simp] theorem endPhase_decPend (s : State) : (endPhase s).decPend = s.decPend := rfl
@[simp] theorem endPhase_buf (s : State) : (endPhase s).buf = s.buf := rfl
@[simp] theorem endPhase_bufDraw (s : State) : (endPhase s).bufDraw = s.bufDraw := rfl
@[simp] theorem endPhase_snsCnt (s : State) : (endPhase s).snsCnt = s.snsCnt := rfl
@[simp] theorem endPhase_dqOe (s : State) : (endPhase s).dqOe = s.dqOe := rfl
@[simp] theorem endPhase_irq (s : State) : (endPhase s).irq = irqLine s.status s.ctrl := rfl
@[simp] theorem endPhase_rdata (s : State) : (endPhase s).rdata = s.rdata := rfl
@[simp] theorem endPhase_inputs (s : State) : (endPhase s).inputs = s.inputs := rfl
@[simp] theorem endPhase_draws (s : State) : (endPhase s).draws = s.draws := rfl

/-! startSensor: the fields it never writes -/
@[simp] theorem startSensor_cfg (s : State) : (startSensor s).cfg = s.cfg := by unfold startSensor; split <;> rfl
@[simp] theorem startSensor_ctrl (s : State) : (startSensor s).ctrl = s.ctrl := by unfold startSensor; split <;> rfl
@[simp] theorem startSensor_irResult (s : State) : (startSensor s).irResult = s.irResult := by unfold startSensor; split <;> rfl
@[simp] theorem startSensor_irRaw (s : State) : (startSensor s).irRaw = s.irRaw := by unfold startSensor; split <;> rfl
@[simp] theorem startSensor_irLen (s : State) : (startSensor s).irLen = s.irLen := by unfold startSensor; split <;> rfl
@[simp] theorem startSensor_now (s : State) : (startSensor s).now = s.now := by unfold startSensor; split <;> rfl
@[simp] theorem startSensor_prevIr (s : State) : (startSensor s).prevIr = s.prevIr := by unfold startSensor; split <;> rfl
@[simp] theorem startSensor_last (s : State) : (startSensor s).last = s.last := by unfold startSensor; split <;> rfl
@[simp] theorem startSensor_baseValid (s : State) : (startSensor s).baseValid = s.baseValid := by unfold startSensor; split <;> rfl
@[simp] theorem startSensor_toArmed (s : State) : (startSensor s).toArmed = s.toArmed := by unfold startSensor; split <;> rfl
@[simp] theorem startSensor_idx (s : State) : (startSensor s).idx = s.idx := by unfold startSensor; split <;> rfl
@[simp] theorem startSensor_active (s : State) : (startSensor s).active = s.active := by unfold startSensor; split <;> rfl
@[simp] theorem startSensor_decLen (s : State) : (startSensor s).decLen = s.decLen := by unfold startSensor; split <;> rfl
@[simp] theorem startSensor_decPend (s : State) : (startSensor s).decPend = s.decPend := by unfold startSensor; split <;> rfl
@[simp] theorem startSensor_buf (s : State) : (startSensor s).buf = s.buf := by unfold startSensor; split <;> rfl
@[simp] theorem startSensor_bufDraw (s : State) : (startSensor s).bufDraw = s.bufDraw := by unfold startSensor; split <;> rfl
@[simp] theorem startSensor_dqOe (s : State) : (startSensor s).dqOe = s.dqOe := by unfold startSensor; split <;> rfl
@[simp] theorem startSensor_irq (s : State) : (startSensor s).irq = s.irq := by unfold startSensor; split <;> rfl
@[simp] theorem startSensor_rdata (s : State) : (startSensor s).rdata = s.rdata := by unfold startSensor; split <;> rfl
@[simp] theorem startSensor_inputs (s : State) : (startSensor s).inputs = s.inputs := by unfold startSensor; split <;> rfl
@[simp] theorem startSensor_draws (s : State) : (startSensor s).draws = s.draws := by unfold startSensor; split <;> rfl

/-! takeInput: it writes inputs and draws only -/
@[simp] theorem takeInput_cfg (s : State) : (takeInput s).cfg = s.cfg := by unfold takeInput; split <;> rfl
@[simp] theorem takeInput_ctrl (s : State) : (takeInput s).ctrl = s.ctrl := by unfold takeInput; split <;> rfl
@[simp] theorem takeInput_status (s : State) : (takeInput s).status = s.status := by unfold takeInput; split <;> rfl
@[simp] theorem takeInput_irResult (s : State) : (takeInput s).irResult = s.irResult := by unfold takeInput; split <;> rfl
@[simp] theorem takeInput_irRaw (s : State) : (takeInput s).irRaw = s.irRaw := by unfold takeInput; split <;> rfl
@[simp] theorem takeInput_irLen (s : State) : (takeInput s).irLen = s.irLen := by unfold takeInput; split <;> rfl
@[simp] theorem takeInput_snsCode (s : State) : (takeInput s).snsCode = s.snsCode := by unfold takeInput; split <;> rfl
@[simp] theorem takeInput_snsNbits (s : State) : (takeInput s).snsNbits = s.snsNbits := by unfold takeInput; split <;> rfl
@[simp] theorem takeInput_snsState (s : State) : (takeInput s).snsState = s.snsState := by unfold takeInput; split <;> rfl
@[simp] theorem takeInput_payload (s : State) : (takeInput s).payload = s.payload := by unfold takeInput; split <;> rfl
@[simp] theorem takeInput_now (s : State) : (takeInput s).now = s.now := by unfold takeInput; split <;> rfl
@[simp] theorem takeInput_prevIr (s : State) : (takeInput s).prevIr = s.prevIr := by unfold takeInput; split <;> rfl
@[simp] theorem takeInput_last (s : State) : (takeInput s).last = s.last := by unfold takeInput; split <;> rfl
@[simp] theorem takeInput_baseValid (s : State) : (takeInput s).baseValid = s.baseValid := by unfold takeInput; split <;> rfl
@[simp] theorem takeInput_toArmed (s : State) : (takeInput s).toArmed = s.toArmed := by unfold takeInput; split <;> rfl
@[simp] theorem takeInput_idx (s : State) : (takeInput s).idx = s.idx := by unfold takeInput; split <;> rfl
@[simp] theorem takeInput_active (s : State) : (takeInput s).active = s.active := by unfold takeInput; split <;> rfl
@[simp] theorem takeInput_decLen (s : State) : (takeInput s).decLen = s.decLen := by unfold takeInput; split <;> rfl
@[simp] theorem takeInput_decPend (s : State) : (takeInput s).decPend = s.decPend := by unfold takeInput; split <;> rfl
@[simp] theorem takeInput_buf (s : State) : (takeInput s).buf = s.buf := by unfold takeInput; split <;> rfl
@[simp] theorem takeInput_bufDraw (s : State) : (takeInput s).bufDraw = s.bufDraw := by unfold takeInput; split <;> rfl
@[simp] theorem takeInput_snsCnt (s : State) : (takeInput s).snsCnt = s.snsCnt := by unfold takeInput; split <;> rfl
@[simp] theorem takeInput_dqOe (s : State) : (takeInput s).dqOe = s.dqOe := by unfold takeInput; split <;> rfl
@[simp] theorem takeInput_irq (s : State) : (takeInput s).irq = s.irq := by unfold takeInput; split <;> rfl
@[simp] theorem takeInput_rdata (s : State) : (takeInput s).rdata = s.rdata := by unfold takeInput; split <;> rfl

end Sys2Proof.Machine
end

