-- ==== Sys2Proof/Laws/Memory.lean ====
section
/-! SUPPORT. The pulse memory: read after write, and every operation keeps the canonical form. -/

namespace Sys2Proof.Machine

/-- A write is read back at its key and leaves every other key alone, in any memory. -/
theorem memLookup_memInsert (free : Nat → Sample) (m : Memory) (k a : Nat) (v : Sample) :
    memLookup free (memInsert m k v) a = if a = k then v else memLookup free m a := by
  induction m with
  | nil => simp only [memInsert, memLookup, eq_comm]
  | cons c m ih =>
    by_cases h1 : k < c.1
    · simp only [memInsert, h1, if_true, memLookup, eq_comm (a := k)]
    · by_cases h2 : k = c.1
      · subst h2
        by_cases h3 : a = c.1 <;> simp [memInsert, memLookup, h3, eq_comm (b := a)]
      · simp only [memInsert, h1, h2, if_false, memLookup, ih]
        by_cases h3 : c.1 = a
        · subst h3; simp [Ne.symm h2]
        · simp [h3]

/-- The key of an existing entry is canonical: in range, and distinct for distinct entries. -/
theorem bufKey_lt (b : Bool) (i : Nat) (h : i < 65536) : bufKey b i < 2 * 65536 := by
  cases b <;> simp [bufKey] <;> omega

theorem bufKey_mod (b : Bool) (i : Nat) (h : i < 65536) : bufKey b i % 65536 = i := by
  cases b <;> simp [bufKey] <;> omega

theorem bufKey_inj {b c : Bool} {i j : Nat} (hi : i < 65536) (hj : j < 65536) :
    bufKey b i = bufKey c j ↔ b = c ∧ i = j := by
  cases b <;> cases c <;> simp [bufKey] <;> omega

/-- The keys of a canonical memory: the head is in range and below every later key. -/
theorem Memory.wf_cons {cap : Nat} {c : Nat × Sample} {m : Memory} :
    Memory.wf cap (c :: m) = true ↔
      c.1 % 65536 < cap ∧ c.1 < 2 * 65536 ∧ (∀ d ∈ m, c.1 < d.1) ∧ Memory.wf cap m = true := by
  induction m generalizing c with
  | nil => simp [Memory.wf]
  | cons d m ih =>
    simp only [Memory.wf, Bool.and_eq_true, decide_eq_true_eq]
    rw [ih]
    constructor
    · rintro ⟨⟨h1, h2⟩, h3, h4, h5, h6⟩
      refine ⟨h1, by omega, ?_, h3, h4, h5, h6⟩
      intro e he
      rcases List.mem_cons.1 he with rfl | he
      · exact h2
      · exact Nat.lt_trans h2 (h5 e he)
    · rintro ⟨h1, h2, h3, h4⟩
      exact ⟨⟨h1, h3 d (by simp)⟩, h4⟩

theorem mem_memInsert {m : Memory} {k : Nat} {v : Sample} {c : Nat × Sample} (h : c ∈ memInsert m k v) :
    c = (k, v) ∨ c ∈ m := by
  induction m with
  | nil => simpa [memInsert] using h
  | cons d m ih =>
    simp only [memInsert] at h
    split at h
    · simpa using h
    · split at h
      · rcases List.mem_cons.1 h with h | h
        · exact .inl h
        · exact .inr (by simp [h])
      · rcases List.mem_cons.1 h with h | h
        · exact .inr (by simp [h])
        · rcases ih h with h | h
          · exact .inl h
          · exact .inr (by simp [h])

/-- A write of an existing entry keeps the canonical form. -/
theorem memInsert_wf {cap : Nat} {m : Memory} {k : Nat} {v : Sample} (hm : Memory.wf cap m = true)
    (hk : k % 65536 < cap) (hk2 : k < 2 * 65536) : Memory.wf cap (memInsert m k v) = true := by
  induction m with
  | nil => simp [memInsert, Memory.wf, hk, hk2]
  | cons c m ih =>
    obtain ⟨h1, h2, h3, h4⟩ := Memory.wf_cons.1 hm
    simp only [memInsert]
    split
    · rename_i hlt
      refine Memory.wf_cons.2 ⟨hk, hk2, ?_, hm⟩
      intro d hd
      rcases List.mem_cons.1 hd with rfl | hd
      · exact hlt
      · exact Nat.lt_trans hlt (h3 d hd)
    · split
      · rename_i heq
        subst heq
        exact Memory.wf_cons.2 ⟨h1, h2, h3, h4⟩
      · refine Memory.wf_cons.2 ⟨h1, h2, ?_, ih h4⟩
        intro d hd
        rcases mem_memInsert hd with rfl | hd
        · simp only; omega
        · exact h3 d hd

end Sys2Proof.Machine
end

