-- ==== Sys2Proof/Laws/Select.lean ====
section
/-! SUPPORT. What a unit's word selects, as a decision on the conditions of the tick (30_encoding.md R100–R103), so that no
proof unfolds a table. `capOp`, `decOp`, `snsOp` and `busOp` are the operations a tick performs. -/

namespace Sys2Proof.Machine

/-- The capture table as a decision on its seven conditions. -/
def capSelect (en edge bv long room due has : Bool) : Instr :=
  if !en then .capOff
  else if edge then
    if !bv then .capBaseline
    else if long then (if has then .capBoundaryDeliver else .capBoundaryEmpty)
    else (if room then .capAppend else .capDiscard)
  else if due then (if has then .capTimeoutDeliver else .capTimeoutEmpty)
  else .capQuiet

theorem decodeVec_capRows (en edge bv long room due has : Bool) :
    decodeVec capRows (vec7 en edge bv long room due has) = .ok (capSelect en edge bv long room due has) := by
  cases en <;> cases edge <;> cases bv <;> cases long <;> cases room <;> cases due <;> cases has <;> rfl

/-- The decoder table as a decision. -/
def decSelect (pend gt50 rpt : Bool) : Instr :=
  if !pend then .decIdle else if gt50 then .decNec else if rpt then .decRepeat else .decBadlen

theorem decodeVec_decRows (pend gt50 rpt : Bool) :
    decodeVec decRows (BitVec.ofBool rpt ++ BitVec.ofBool gt50 ++ BitVec.ofBool pend) = .ok (decSelect pend gt50 rpt) := by
  cases pend <;> cases gt50 <;> cases rpt <;> rfl

/-- The sensor table as a decision. -/
def snsSelect (st : SnsState) (d fin last csum : Bool) : Instr :=
  match st with
  | .idle => .snsIdle
  | .startLow => if fin then .snsStartLowEnd else .snsStartLowCont
  | .release => if fin then .snsReleaseEnd else .snsReleaseCont
  | .respLow => if !d then .snsRespLowOk else if fin then .snsRespLowFail else .snsRespLowWait
  | .respHigh => if d then .snsRespHighOk else if fin then .snsRespHighFail else .snsRespHighWait
  | .dataLow => if !d then .snsDataLowOk else if fin then .snsDataLowFail else .snsDataLowWait
  | .bitHigh => if d then .snsBitHighOk else if fin then .snsBitHighFail else .snsBitHighWait
  | .bitMeasure =>
    if d then (if fin then .snsMeasureFail else .snsMeasureWait)
    else if last then (if csum then .snsMeasureLastOk else .snsMeasureLastBad)
    else .snsMeasureBit

theorem decodeVec_snsRows (st : SnsState) (d fin last csum : Bool) :
    decodeVec snsRows (BitVec.ofBool csum ++ BitVec.ofBool last ++ BitVec.ofBool fin ++ BitVec.ofBool d ++ snsStateCode st) =
      .ok (snsSelect st d fin last csum) := by
  cases st <;> cases d <;> cases fin <;> cases last <;> cases csum <;> rfl

/-- The operation of the capture phase. -/
def capOp (irIn : Bool) (s : State) : Instr :=
  capSelect s.ctrl.irEn (irIn != s.prevIr) s.baseValid (longGap s) (decide (s.idx.toNat < s.cfg.cap)) (timeoutDue s)
    (decide (1 ≤ s.idx.toNat))

/-- The operation of the decoder phase. -/
def decOp (s : State) : Instr :=
  decSelect s.decPend (decide (necLenMin < s.decLen.toNat))
    (decide (0 < s.decLen.toNat) && decide (s.decLen.toNat < repeatLenMax))

/-- The operation of the sensor phase. -/
def snsOp (dqIn : Bool) (s : State) : Instr :=
  snsSelect s.snsState dqIn (snsBusy s && decide (elapsed s = snsLimit s.cfg s.snsState))
    (decide (s.snsNbits.toNat + 1 = snsBits)) (checksumHolds (shiftedPayload s.payload s.snsNbits (bitValue s)))

theorem decode_captureVector (irIn : Bool) (s : State) : decode (.capVec (captureVector irIn s)) = .ok (capOp irIn s) :=
  decodeVec_capRows ..

theorem decode_decoderVector (s : State) : decode (.decVec (decoderVector s)) = .ok (decOp s) :=
  decodeVec_decRows ..

theorem decode_sensorVector (dqIn : Bool) (s : State) : decode (.snsVec (sensorVector dqIn s)) = .ok (snsOp dqIn s) :=
  decodeVec_snsRows ..

@[simp] theorem reqOff_requestWord (off : Byte) (we : Bool) (wdata : Word) : reqOff (requestWord off we wdata) = off := by
  apply BitVec.eq_of_getLsbD_eq
  intro i hi
  simp only [reqOff, requestWord, BitVec.getLsbD_extractLsb', BitVec.getLsbD_append]
  simp [hi]

@[simp] theorem reqWe_requestWord (off : Byte) (we : Bool) (wdata : Word) : reqWe (requestWord off we wdata) = we := by
  rw [reqWe, requestWord, BitVec.getLsbD_append, BitVec.getLsbD_append]
  cases we <;> simp

@[simp] theorem reqWdata_requestWord (off : Byte) (we : Bool) (wdata : Word) :
    reqWdata (requestWord off we wdata) = wdata := by
  apply BitVec.eq_of_getLsbD_eq
  intro i hi
  have h8 : ¬ 9 + i < 8 := by omega
  have h1 : ¬ 9 + i - 8 < 1 := by omega
  simp only [reqWdata, requestWord, BitVec.getLsbD_extractLsb', BitVec.getLsbD_append, h8, h1, if_false]
  have : 9 + i - 8 - 1 = i := by omega
  simp [hi, this]

/-- A request word decodes by its fields. -/
theorem decode_requestWord (off : Byte) (we : Bool) (wdata : Word) :
    decode (.busReq (requestWord off we wdata)) = .ok (decodeFields off we wdata) := by
  simp [decode, decodeRequest]

/-- The operation of the bus phase. -/
def busOp : Option BusRequest → Instr
  | none => .busIdle
  | some r => if r.size = 4 then decodeFields r.off r.we r.wdata else .busMisaligned r.off r.we r.wdata

theorem decode_busWordOf (b : Option BusRequest) : decode (busWordOf b) = .ok (busOp b) := by
  cases b with
  | none => rfl
  | some r =>
    simp only [busWordOf, busOp]
    split
    · exact decode_requestWord ..
    · rfl

theorem busPhase_eq (b : Option BusRequest) (s : State) : busPhase b s = exec (busOp b) s := by
  simp [busPhase, runWord, decode_busWordOf]

theorem decoderPhase_eq (s : State) : decoderPhase s = exec (decOp s) s := by
  simp [decoderPhase, runWord, decode_decoderVector]

theorem capturePhase_eq (irIn : Bool) (s : State) :
    capturePhase irIn s = andThen (exec (capOp irIn s) s) fun t => .next (sampleIr irIn t) := by
  simp [capturePhase, runWord, decode_captureVector]

theorem sensorPhase_eq (dqIn : Bool) (s : State) : sensorPhase dqIn s = exec (snsOp dqIn s) s := by
  simp [sensorPhase, runWord, decode_sensorVector]

end Sys2Proof.Machine
end

