-- ==== Sys2Proof/Laws/Units.lean ====
section
/-! SUPPORT. What each unit can do in a tick, said once: the operation its vector selects answers a next state, and that
state is one of the cases below. Provers cite these instead of unfolding exec. -/

namespace Sys2Proof.Machine

theorem andThen_next {o : Answer} {f : State → Answer} {t : State} :
    andThen o f = .next t ↔ ∃ u, o = .next u ∧ f u = .next t := by
  cases o <;> simp [andThen]

theorem next_inj {s t : State} : (Host.Outcome.next s : Answer) = .next t ↔ s = t := by
  constructor
  · intro h; injection h
  · rintro rfl; rfl

/-! ## Capture -/

/-- The state CAP_APPEND leaves (40_capture.md R131). -/
def appended (s : State) : State :=
  { edgeBookkeeping s with
    buf := memInsert s.buf (bufKey s.active s.idx.toNat) (BitVec.ofNat 16 (pulse s))
    idx := s.idx + 1#16 }

theorem execCapAppend_eq {s : State} (h : s.idx.toNat < s.cfg.cap) : execCapAppend s = .next (appended s) := by
  simp [execCapAppend, bufWrite, h, andThen, appended]

theorem execCapAppend_fault {s : State} (h : ¬ s.idx.toNat < s.cfg.cap) : execCapAppend s = .fault .noSuchEntry := by
  simp [execCapAppend, bufWrite, h, andThen]

/-- What the capture phase's operation does (R124–R132), by the conditions of R100. -/
inductive CaptureStep (irIn : Bool) (s : State) : Instr → State → Prop
  | off (h : s.ctrl.irEn = false) : CaptureStep irIn s .capOff (captureIdle s)
  | quiet (h : s.ctrl.irEn = true) (he : irIn = s.prevIr) (hd : timeoutDue s = false) : CaptureStep irIn s .capQuiet s
  | timeoutDeliver (h : s.ctrl.irEn = true) (he : irIn = s.prevIr) (hd : timeoutDue s = true) (hi : 1 ≤ s.idx.toNat) :
      CaptureStep irIn s .capTimeoutDeliver (captureIdle (swap s))
  | timeoutEmpty (h : s.ctrl.irEn = true) (he : irIn = s.prevIr) (hd : timeoutDue s = true) (hi : s.idx.toNat = 0) :
      CaptureStep irIn s .capTimeoutEmpty (captureIdle s)
  | baseline (h : s.ctrl.irEn = true) (he : irIn ≠ s.prevIr) (hb : s.baseValid = false) :
      CaptureStep irIn s .capBaseline { edgeBookkeeping s with baseValid := true }
  | boundaryDeliver (h : s.ctrl.irEn = true) (he : irIn ≠ s.prevIr) (hb : s.baseValid = true) (hl : longGap s = true)
      (hi : 1 ≤ s.idx.toNat) : CaptureStep irIn s .capBoundaryDeliver (clearIdx (swap (edgeBookkeeping s)))
  | boundaryEmpty (h : s.ctrl.irEn = true) (he : irIn ≠ s.prevIr) (hb : s.baseValid = true) (hl : longGap s = true)
      (hi : s.idx.toNat = 0) : CaptureStep irIn s .capBoundaryEmpty (clearIdx (edgeBookkeeping s))
  | append (h : s.ctrl.irEn = true) (he : irIn ≠ s.prevIr) (hb : s.baseValid = true) (hl : longGap s = false)
      (hi : s.idx.toNat < s.cfg.cap) : CaptureStep irIn s .capAppend (appended s)
  | discard (h : s.ctrl.irEn = true) (he : irIn ≠ s.prevIr) (hb : s.baseValid = true) (hl : longGap s = false)
      (hi : s.cfg.cap ≤ s.idx.toNat) : CaptureStep irIn s .capDiscard { clearIdx (edgeBookkeeping s) with baseValid := false }

/-- The capture phase's operation always answers a next state, and it is a case of CaptureStep. -/
theorem exec_capOp (irIn : Bool) (s : State) : ∃ t, exec (capOp irIn s) s = .next t ∧ CaptureStep irIn s (capOp irIn s) t := by
  have bool {b : Bool} (h : ¬ b = true) : b = false := by simpa using h
  have bne_t (h : (irIn != s.prevIr) = true) : irIn ≠ s.prevIr := by simpa using h
  have bne_f (h : ¬ (irIn != s.prevIr) = true) : irIn = s.prevIr := by simpa using h
  unfold capOp capSelect
  by_cases hen : s.ctrl.irEn = true
  · by_cases he : (irIn != s.prevIr) = true
    · by_cases hb : s.baseValid = true
      · by_cases hl : longGap s = true
        · by_cases hi : 1 ≤ s.idx.toNat
          · simp only [hen, he, hb, hl, hi]; exact ⟨_, rfl, .boundaryDeliver hen (bne_t he) hb hl hi⟩
          · simp only [hen, he, hb, hl, hi]; exact ⟨_, rfl, .boundaryEmpty hen (bne_t he) hb hl (by omega)⟩
        · by_cases hi : s.idx.toNat < s.cfg.cap
          · simp only [hen, he, hb, bool hl, hi]
            exact ⟨_, execCapAppend_eq hi, .append hen (bne_t he) hb (bool hl) hi⟩
          · simp only [hen, he, hb, bool hl, hi]; exact ⟨_, rfl, .discard hen (bne_t he) hb (bool hl) (by omega)⟩
      · simp only [hen, he, bool hb]; exact ⟨_, rfl, .baseline hen (bne_t he) (bool hb)⟩
    · by_cases hd : timeoutDue s = true
      · by_cases hi : 1 ≤ s.idx.toNat
        · simp only [hen, bool he, hd, hi]; exact ⟨_, rfl, .timeoutDeliver hen (bne_f he) hd hi⟩
        · simp only [hen, bool he, hd, hi]; exact ⟨_, rfl, .timeoutEmpty hen (bne_f he) hd (by omega)⟩
      · simp only [hen, bool he, bool hd]; exact ⟨_, rfl, .quiet hen (bne_f he) (bool hd)⟩
  · simp only [bool hen]; exact ⟨_, rfl, .off (bool hen)⟩

/-- What the capture phase does. -/
theorem capturePhase_next {irIn : Bool} {s t : State} (h : capturePhase irIn s = .next t) :
    ∃ u, CaptureStep irIn s (capOp irIn s) u ∧ t = sampleIr irIn u := by
  obtain ⟨u, hu, hc⟩ := exec_capOp irIn s
  rw [capturePhase_eq, hu] at h
  exact ⟨u, hc, (next_inj.1 h).symm⟩

/-! ## Decoder -/

/-- What the decoder phase's operation does (41_decoder.md R150, R153–R156). -/
inductive DecoderStep (s : State) : Instr → State → Prop
  | idle (h : s.decPend = false) : DecoderStep s .decIdle s
  | repeatCode (h : s.decPend = true) (h0 : 0 < s.decLen.toNat) (h10 : s.decLen.toNat < 10) :
      DecoderStep s .decRepeat (publish ⟨.repeatCode, .noReason, 0#8, 0#8, 0#32⟩ (consumePend s))
  | badlen (h : s.decPend = true) (hl : s.decLen.toNat = 0 ∨ (10 ≤ s.decLen.toNat ∧ s.decLen.toNat ≤ 50)) :
      DecoderStep s .decBadlen (publish (invalid .length 0#32) (consumePend s))
  | nec (h : s.decPend = true) (hl : 50 < s.decLen.toNat) :
      DecoderStep s .decNec (publish (classifyNec (decodeSample s)) (consumePend s))

/-- The decoder phase's operation always answers a next state, and it is a case of DecoderStep. -/
theorem exec_decOp (s : State) : ∃ t, exec (decOp s) s = .next t ∧ DecoderStep s (decOp s) t := by
  unfold decOp decSelect necLenMin repeatLenMax
  by_cases hp : s.decPend = true
  · by_cases hg : 50 < s.decLen.toNat
    · simp only [hp, hg]; exact ⟨_, rfl, .nec hp hg⟩
    · by_cases hr : 0 < s.decLen.toNat ∧ s.decLen.toNat < 10
      · simp only [hp, hg, hr.1, hr.2]; exact ⟨_, rfl, .repeatCode hp hr.1 hr.2⟩
      · have : (decide (0 < s.decLen.toNat) && decide (s.decLen.toNat < 10)) = false := by simp; omega
        simp only [hp, hg, this]; exact ⟨_, rfl, .badlen hp (by omega)⟩
  · have hp' : s.decPend = false := by simpa using hp
    simp only [hp']; exact ⟨_, rfl, .idle hp'⟩

theorem decoderPhase_next {s t : State} (h : decoderPhase s = .next t) : DecoderStep s (decOp s) t := by
  obtain ⟨u, hu, hc⟩ := exec_decOp s
  rw [decoderPhase_eq, hu] at h
  exact next_inj.1 h ▸ hc

/-! ## Sensor -/

/-- What the sensor phase's operation does (42_sensor.md R186–R207), by the level that a state waits for, its limit, and what
success and failure do. -/
inductive SensorStep (dqIn : Bool) (s : State) : Instr → State → Prop
  | idle (h : s.snsState = .idle) : SensorStep dqIn s .snsIdle (driveLine s)
  | startLowCont (h : s.snsState = .startLow) (he : elapsed s ≠ 18000) : SensorStep dqIn s .snsStartLowCont (stay (driveLine s))
  | startLowEnd (h : s.snsState = .startLow) (he : elapsed s = 18000) :
      SensorStep dqIn s .snsStartLowEnd (moveTo .release (driveLine s))
  | releaseCont (h : s.snsState = .release) (he : elapsed s ≠ s.cfg.tRel) : SensorStep dqIn s .snsReleaseCont (stay (driveLine s))
  | releaseEnd (h : s.snsState = .release) (he : elapsed s = s.cfg.tRel) :
      SensorStep dqIn s .snsReleaseEnd (moveTo .respLow (driveLine s))
  | respLowOk (h : s.snsState = .respLow) (hd : dqIn = false) : SensorStep dqIn s .snsRespLowOk (moveTo .respHigh (driveLine s))
  | respLowWait (h : s.snsState = .respLow) (hd : dqIn = true) (he : elapsed s ≠ 100) :
      SensorStep dqIn s .snsRespLowWait (stay (driveLine s))
  | respLowFail (h : s.snsState = .respLow) (hd : dqIn = true) (he : elapsed s = 100) :
      SensorStep dqIn s .snsRespLowFail (finish .responseLowTimeout (driveLine s))
  | respHighOk (h : s.snsState = .respHigh) (hd : dqIn = true) : SensorStep dqIn s .snsRespHighOk (moveTo .dataLow (driveLine s))
  | respHighWait (h : s.snsState = .respHigh) (hd : dqIn = false) (he : elapsed s ≠ 100) :
      SensorStep dqIn s .snsRespHighWait (stay (driveLine s))
  | respHighFail (h : s.snsState = .respHigh) (hd : dqIn = false) (he : elapsed s = 100) :
      SensorStep dqIn s .snsRespHighFail (finish .responseHighTimeout (driveLine s))
  | dataLowOk (h : s.snsState = .dataLow) (hd : dqIn = false) : SensorStep dqIn s .snsDataLowOk (moveTo .bitHigh (driveLine s))
  | dataLowWait (h : s.snsState = .dataLow) (hd : dqIn = true) (he : elapsed s ≠ 100) :
      SensorStep dqIn s .snsDataLowWait (stay (driveLine s))
  | dataLowFail (h : s.snsState = .dataLow) (hd : dqIn = true) (he : elapsed s = 100) :
      SensorStep dqIn s .snsDataLowFail (finish .dataStartTimeout (driveLine s))
  | bitHighOk (h : s.snsState = .bitHigh) (hd : dqIn = true) : SensorStep dqIn s .snsBitHighOk (moveTo .bitMeasure (driveLine s))
  | bitHighWait (h : s.snsState = .bitHigh) (hd : dqIn = false) (he : elapsed s ≠ 70) :
      SensorStep dqIn s .snsBitHighWait (stay (driveLine s))
  | bitHighFail (h : s.snsState = .bitHigh) (hd : dqIn = false) (he : elapsed s = 70) :
      SensorStep dqIn s .snsBitHighFail (finish .bitStartTimeout (driveLine s))
  | measureBit (h : s.snsState = .bitMeasure) (hd : dqIn = false) (hn : s.snsNbits.toNat + 1 ≠ 40) :
      SensorStep dqIn s .snsMeasureBit (moveTo .bitHigh (shiftBit (bitValue s) (driveLine s)))
  | measureLastOk (h : s.snsState = .bitMeasure) (hd : dqIn = false) (hn : s.snsNbits.toNat + 1 = 40)
      (hc : checksumHolds (shiftedPayload s.payload s.snsNbits (bitValue s)) = true) :
      SensorStep dqIn s .snsMeasureLastOk (finish .ok (shiftBit (bitValue s) (driveLine s)))
  | measureLastBad (h : s.snsState = .bitMeasure) (hd : dqIn = false) (hn : s.snsNbits.toNat + 1 = 40)
      (hc : checksumHolds (shiftedPayload s.payload s.snsNbits (bitValue s)) = false) :
      SensorStep dqIn s .snsMeasureLastBad (finish .checksumError (shiftBit (bitValue s) (driveLine s)))
  | measureWait (h : s.snsState = .bitMeasure) (hd : dqIn = true) (he : elapsed s ≠ 120) :
      SensorStep dqIn s .snsMeasureWait (stay (driveLine s))
  | measureFail (h : s.snsState = .bitMeasure) (hd : dqIn = true) (he : elapsed s = 120) :
      SensorStep dqIn s .snsMeasureFail (finish .bitWidthTimeout (driveLine s))

/-- The sensor phase's operation always answers a next state, and it is a case of SensorStep. -/
theorem exec_snsOp (dqIn : Bool) (s : State) : ∃ t, exec (snsOp dqIn s) s = .next t ∧ SensorStep dqIn s (snsOp dqIn s) t := by
  cases hst : s.snsState with
  | idle =>
    simp only [snsOp, hst, snsSelect]; exact ⟨_, rfl, .idle hst⟩
  | startLow =>
    by_cases he : elapsed s = 18000 <;>
      simp only [snsOp, hst, snsSelect, snsBusy, snsLimit, snsStartLowUs, he, decide_true, decide_false, Bool.and_true, Bool.and_false]
    · exact ⟨_, rfl, .startLowEnd hst he⟩
    · exact ⟨_, rfl, .startLowCont hst he⟩
  | release =>
    by_cases he : elapsed s = s.cfg.tRel <;>
      simp only [snsOp, hst, snsSelect, snsBusy, snsLimit, he, decide_true, decide_false, Bool.and_true, Bool.and_false]
    · exact ⟨_, rfl, .releaseEnd hst he⟩
    · exact ⟨_, rfl, .releaseCont hst he⟩
  | respLow =>
    cases dqIn
    · simp only [snsOp, hst, snsSelect]; exact ⟨_, rfl, .respLowOk hst rfl⟩
    · by_cases he : elapsed s = 100 <;>
        simp only [snsOp, hst, snsSelect, snsBusy, snsLimit, snsRespLowTo, he, decide_true, decide_false, Bool.and_true, Bool.and_false]
      · exact ⟨_, rfl, .respLowFail hst rfl he⟩
      · exact ⟨_, rfl, .respLowWait hst rfl he⟩
  | respHigh =>
    cases dqIn
    · by_cases he : elapsed s = 100 <;>
        simp only [snsOp, hst, snsSelect, snsBusy, snsLimit, snsRespHighTo, he, decide_true, decide_false, Bool.and_true, Bool.and_false]
      · exact ⟨_, rfl, .respHighFail hst rfl he⟩
      · exact ⟨_, rfl, .respHighWait hst rfl he⟩
    · simp only [snsOp, hst, snsSelect]; exact ⟨_, rfl, .respHighOk hst rfl⟩
  | dataLow =>
    cases dqIn
    · simp only [snsOp, hst, snsSelect]; exact ⟨_, rfl, .dataLowOk hst rfl⟩
    · by_cases he : elapsed s = 100 <;>
        simp only [snsOp, hst, snsSelect, snsBusy, snsLimit, snsDataStartTo, he, decide_true, decide_false, Bool.and_true, Bool.and_false]
      · exact ⟨_, rfl, .dataLowFail hst rfl he⟩
      · exact ⟨_, rfl, .dataLowWait hst rfl he⟩
  | bitHigh =>
    cases dqIn
    · by_cases he : elapsed s = 70 <;>
        simp only [snsOp, hst, snsSelect, snsBusy, snsLimit, snsBitStartTo, he, decide_true, decide_false, Bool.and_true, Bool.and_false]
      · exact ⟨_, rfl, .bitHighFail hst rfl he⟩
      · exact ⟨_, rfl, .bitHighWait hst rfl he⟩
    · simp only [snsOp, hst, snsSelect]; exact ⟨_, rfl, .bitHighOk hst rfl⟩
  | bitMeasure =>
    cases dqIn
    · by_cases hn : s.snsNbits.toNat + 1 = 40
      · cases hc : checksumHolds (shiftedPayload s.payload s.snsNbits (bitValue s)) <;>
          simp only [snsOp, hst, snsSelect, hn, hc, snsBits, decide_true]
        · exact ⟨_, rfl, .measureLastBad hst rfl hn hc⟩
        · exact ⟨_, rfl, .measureLastOk hst rfl hn hc⟩
      · simp only [snsOp, hst, snsSelect, hn, snsBits, decide_false]
        exact ⟨_, rfl, .measureBit hst rfl hn⟩
    · by_cases he : elapsed s = 120 <;>
        simp only [snsOp, hst, snsSelect, snsBusy, snsLimit, snsBitWidthTo, he, decide_true, decide_false, Bool.and_true, Bool.and_false]
      · exact ⟨_, rfl, .measureFail hst rfl he⟩
      · exact ⟨_, rfl, .measureWait hst rfl he⟩

theorem sensorPhase_next {dqIn : Bool} {s t : State} (h : sensorPhase dqIn s = .next t) :
    SensorStep dqIn s (snsOp dqIn s) t := by
  obtain ⟨u, hu, hc⟩ := exec_snsOp dqIn s
  rw [sensorPhase_eq, hu] at h
  exact next_inj.1 h ▸ hc

/-! ## Bus -/

/-- What the bus phase can do to the state (43_host_bus.md R221–R238), by the request. -/
inductive BusStep (s : State) : Option BusRequest → State → Prop
  | idle : BusStep s none (noData s)
  | read {r : BusRequest} (hs : r.size = 4) (ha : r.off.toNat % 4 = 0) (hw : r.we = false) :
      BusStep s (some r) (readInto (registerWord r.off s) s)
  | ctrl {r : BusRequest} (hs : r.size = 4) (ho : r.off = 0x00#8) (hw : r.we = true) :
      BusStep s (some r) (writeCtrl r.wdata (noData s))
  | cmdNop {r : BusRequest} (hs : r.size = 4) (ho : r.off = 0x04#8) (hw : r.we = true) (hc : cmdOp r.wdata = 0) :
      BusStep s (some r) (noData s)
  | cmdStart {r : BusRequest} (hs : r.size = 4) (ho : r.off = 0x04#8) (hw : r.we = true) (hc : cmdOp r.wdata = 1) :
      BusStep s (some r) (startSensor (noData s))
  | cmdRsvd {r : BusRequest} (hs : r.size = 4) (ho : r.off = 0x04#8) (hw : r.we = true) (hc : 2 ≤ cmdOp r.wdata) :
      BusStep s (some r) { noData s with status := flagCmdErr s.status }
  | status {r : BusRequest} (hs : r.size = 4) (ho : r.off = 0x08#8) (hw : r.we = true) :
      BusStep s (some r) { noData s with status := flagW1c r.wdata s.status }
  | other {r : BusRequest} (hs : r.size = 4) (ha : r.off.toNat % 4 = 0) (hw : r.we = true)
      (ho : r.off ≠ 0x00#8 ∧ r.off ≠ 0x04#8 ∧ r.off ≠ 0x08#8) : BusStep s (some r) (noData s)

/-- A read at an aligned offset returns the register's word. -/
theorem exec_decodeRead (off : Byte) (s : State) : exec (decodeRead off) s = .next (readInto (registerWord off s) s) := by
  unfold decodeRead registerWord
  repeat' split
  all_goals first | rfl | (subst_vars; simp_all)

/-- The bus phase's operation: the request within the contract is served, the other refused (R239). -/
theorem exec_busOp (b : Option BusRequest) (s : State) :
    (requestInContract b = true ∧ ∃ t, exec (busOp b) s = .next t ∧ BusStep s b t) ∨
    (requestInContract b = false ∧ exec (busOp b) s = .refused .outsideContract) := by
  cases b with
  | none => exact .inl ⟨rfl, _, rfl, .idle⟩
  | some r =>
    by_cases hs : r.size = 4
    · by_cases ha : r.off.toNat % 4 = 0
      · left
        refine ⟨by simp [requestInContract, hs, ha], ?_⟩
        simp only [busOp, hs, if_true, decodeFields, ha, ne_eq, not_true_eq_false, if_false]
        by_cases hw : r.we = true
        · simp only [hw, if_true, decodeWrite]
          by_cases h0 : r.off = 0x00#8
          · rw [if_pos h0]; exact ⟨_, rfl, .ctrl hs h0 hw⟩
          rw [if_neg h0]
          by_cases h4 : r.off = 0x04#8
          · rw [if_pos h4]; unfold decodeCommand
            by_cases hc0 : cmdOp r.wdata = 0
            · rw [if_pos hc0]; exact ⟨_, rfl, .cmdNop hs h4 hw hc0⟩
            rw [if_neg hc0]
            by_cases hc1 : cmdOp r.wdata = 1
            · rw [if_pos hc1]; exact ⟨_, rfl, .cmdStart hs h4 hw hc1⟩
            rw [if_neg hc1]; exact ⟨_, rfl, .cmdRsvd hs h4 hw (by omega)⟩
          rw [if_neg h4]
          by_cases h8 : r.off = 0x08#8
          · rw [if_pos h8]; exact ⟨_, rfl, .status hs h8 hw⟩
          rw [if_neg h8]
          split <;> exact ⟨_, rfl, .other hs ha hw ⟨h0, h4, h8⟩⟩
        · have hw' : r.we = false := by simpa using hw
          simp only [hw', Bool.false_eq_true, if_false]
          exact ⟨_, exec_decodeRead .., .read hs ha hw'⟩
      · right
        simp [requestInContract, busOp, hs, decodeFields, ha, exec, execBusMisaligned]
    · right
      simp [requestInContract, busOp, hs, exec, execBusMisaligned]

theorem busPhase_next {b : Option BusRequest} {s t : State} (h : busPhase b s = .next t) :
    requestInContract b = true ∧ BusStep s b t := by
  rw [busPhase_eq] at h
  rcases exec_busOp b s with ⟨hc, u, hu, hb⟩ | ⟨_, hr⟩
  · rw [hu] at h; exact ⟨hc, next_inj.1 h ▸ hb⟩
  · rw [hr] at h; cases h

/-! ## The tick -/

/-- What a tick can do: it is a reset tick, or the four units run in order. -/
theorem tick_next {inp : TickInput} {s t : State} (h : tick inp s = .next t) :
    (inp.rst = true ∧ t = resetTick s) ∨
    (inp.rst = false ∧ requestInContract inp.bus = true ∧ ∃ s1 s2 s3 s4 i2 i3 i4,
      BusStep s inp.bus s1 ∧ DecoderStep s1 i2 s2 ∧ CaptureStep inp.irIn s2 i3 s3 ∧
      SensorStep inp.dqIn (sampleIr inp.irIn s3) i4 s4 ∧ t = endPhase s4) := by
  unfold tick at h
  split at h
  · rename_i hr; exact .inl ⟨hr, (next_inj.1 h).symm⟩
  · rename_i hr
    obtain ⟨s1, h1, k1⟩ := andThen_next.1 h
    obtain ⟨s2, h2, k2⟩ := andThen_next.1 k1
    obtain ⟨s3, h3, k3⟩ := andThen_next.1 k2
    obtain ⟨s4, h4, k4⟩ := andThen_next.1 k3
    obtain ⟨hc, hb⟩ := busPhase_next h1
    obtain ⟨u, hu, rfl⟩ := capturePhase_next h3
    exact .inr ⟨by simpa using hr, hc, s1, s2, u, s4, _, _, _, hb, decoderPhase_next h2, hu, sensorPhase_next h4,
      (next_inj.1 k4).symm⟩

/-- When a tick answers, and what else it can answer: a request outside the contract is refused, nothing faults. -/
theorem tick_answer (inp : TickInput) (s : State) :
    (inputInContract inp = true ∧ ∃ t, tick inp s = .next t) ∨
    (inputInContract inp = false ∧ tick inp s = .refused .outsideContract) := by
  unfold tick inputInContract
  by_cases hr : inp.rst = true
  · left; simp [hr]
  · have hr' : inp.rst = false := by simpa using hr
    simp only [hr', Bool.false_or]
    rcases exec_busOp inp.bus s with ⟨hc, u, hu, _⟩ | ⟨hc, hu⟩
    · left
      obtain ⟨s2, h2, _⟩ := exec_decOp u
      obtain ⟨s3, h3, _⟩ := exec_capOp inp.irIn s2
      obtain ⟨s4, h4, _⟩ := exec_snsOp inp.dqIn (sampleIr inp.irIn s3)
      refine ⟨hc, endPhase s4, ?_⟩
      simp [busPhase_eq, hu, andThen, decoderPhase_eq, h2, capturePhase_eq, h3, sensorPhase_eq, h4]
    · right
      exact ⟨hc, by simp [busPhase_eq, hu, andThen]⟩

end Sys2Proof.Machine
end

