-- ==== Sys2Proof/Laws/Frames.lean ====
section
/-! SUPPORT. What a phase leaves alone, said once for each phase, and the sensor's shift and limits. -/

namespace Sys2Proof.Machine

/-- Taking the inputs changes the inputs to come and the draws only. -/
theorem takeInput_eq (s : State) :
    takeInput s = { s with inputs := s.inputs.drop 1, draws := (takeInput s).draws } := by
  simp only [takeInput]; cases s.inputs <;> simp

/-- The bus phase changes CTRL, STATUS, the reader and rdata only. -/
theorem BusStep.frame {s t : State} {b : Option BusRequest} (h : BusStep s b t) :
    t = { s with ctrl := t.ctrl, status := t.status, snsCode := t.snsCode, snsNbits := t.snsNbits, snsState := t.snsState,
                 payload := t.payload, snsCnt := t.snsCnt, rdata := t.rdata } := by
  cases h
  case cmdStart => by_cases hi : s.snsState = .idle <;> simp [startSensor, noData, hi]
  all_goals rfl

/-- The bus phase touches the reader only when it starts it. -/
theorem BusStep.reader {s t : State} {b : Option BusRequest} (h : BusStep s b t) :
    (isSnsStart b = true ∧ s.snsState = .idle ∧ t = startSensor (noData s)) ∨
    (¬ (isSnsStart b = true ∧ s.snsState = .idle) ∧ t.snsState = s.snsState ∧ t.snsCnt = s.snsCnt ∧
      t.snsNbits = s.snsNbits ∧ t.payload = s.payload ∧ t.snsCode = s.snsCode) := by
  cases h
  case cmdStart hs ho hw hc =>
    by_cases hi : s.snsState = .idle
    · exact .inl ⟨by simp [isSnsStart, hs, ho, hw, hc], hi, rfl⟩
    · exact .inr ⟨fun h => hi h.2, by simp [startSensor, noData, hi]⟩
  case cmdNop hs ho hw hc => exact .inr ⟨by simp [isSnsStart, hc], rfl, rfl, rfl, rfl, rfl⟩
  case cmdRsvd r hs ho hw hc =>
    exact .inr ⟨by simp [isSnsStart, show cmdOp r.wdata ≠ 1 by omega], rfl, rfl, rfl, rfl, rfl⟩
  case read hs ha hw => exact .inr ⟨by simp [isSnsStart, hw], rfl, rfl, rfl, rfl, rfl⟩
  case idle => exact .inr ⟨by simp [isSnsStart], rfl, rfl, rfl, rfl, rfl⟩
  case ctrl hs ho hw => exact .inr ⟨by simp [isSnsStart, ho], rfl, rfl, rfl, rfl, rfl⟩
  case status hs ho hw => exact .inr ⟨by simp [isSnsStart, ho], rfl, rfl, rfl, rfl, rfl⟩
  case other hs ha hw ho => exact .inr ⟨by simp [isSnsStart, ho.2.1], rfl, rfl, rfl, rfl, rfl⟩

/-- The decoder phase changes DEC_PEND, the result registers and two flags only. -/
theorem DecoderStep.frame {s t : State} {i : Instr} (h : DecoderStep s i t) :
    t = { s with decPend := false, irResult := t.irResult, irRaw := t.irRaw, irLen := t.irLen
                 status := { s.status with irRdy := t.status.irRdy, irOvr := t.status.irOvr } } := by
  cases h
  case idle h => simp [← h]
  all_goals rfl

/-- The capture phase's operation changes the capture unit's own elements only, and a swap is what sets DEC_PEND. -/
theorem CaptureStep.frame {irIn : Bool} {s t : State} {i : Instr} (h : CaptureStep irIn s i t) :
    t = { s with last := t.last, baseValid := t.baseValid, toArmed := t.toArmed, idx := t.idx, active := t.active
                 decLen := t.decLen, decPend := t.decPend, buf := t.buf } := by
  cases h <;> rfl

/-- The sensor phase changes the reader, dq_oe and SNS_DONE only. -/
theorem SensorStep.frame {dqIn : Bool} {s t : State} {i : Instr} (h : SensorStep dqIn s i t) :
    t = { s with dqOe := s.snsState == .startLow, snsCode := t.snsCode, snsNbits := t.snsNbits, snsState := t.snsState
                 payload := t.payload, snsCnt := t.snsCnt, status := { s.status with snsDone := t.status.snsDone } } := by
  cases h <;> rfl

/-- A tick that is not a reset tick, phase by phase: which operation each unit performs on which state. -/
theorem tick_phases {inp : TickInput} {s t : State} (hr : inp.rst = false) (h : tick inp s = .next t) :
    ∃ s1 s2 s3 s4, exec (busOp inp.bus) s = .next s1 ∧ exec (decOp s1) s1 = .next s2 ∧
      exec (capOp inp.irIn s2) s2 = .next s3 ∧
      exec (snsOp inp.dqIn (sampleIr inp.irIn s3)) (sampleIr inp.irIn s3) = .next s4 ∧ t = endPhase s4 := by
  unfold tick at h
  rw [if_neg (by simp [hr])] at h
  obtain ⟨s1, h1, k1⟩ := andThen_next.1 h
  obtain ⟨s2, h2, k2⟩ := andThen_next.1 k1
  obtain ⟨s3, h3, k3⟩ := andThen_next.1 k2
  obtain ⟨s4, h4, k4⟩ := andThen_next.1 k3
  rw [capturePhase_eq] at h3
  obtain ⟨u, hu, k5⟩ := andThen_next.1 h3
  have := next_inj.1 k5; subst this
  exact ⟨s1, s2, u, s4, by rw [← busPhase_eq, h1], by rw [← decoderPhase_eq, h2], hu, by rw [← sensorPhase_eq, h4],
    (next_inj.1 k4).symm⟩

/-- The sensor's operation depends on the reader, the line and the limits alone. -/
theorem snsOp_congr (d : Bool) {s t : State} (h1 : t.snsState = s.snsState) (h2 : t.snsCnt = s.snsCnt)
    (h3 : t.snsNbits = s.snsNbits) (h4 : t.payload = s.payload) (h5 : t.cfg = s.cfg) : snsOp d t = snsOp d s := by
  unfold snsOp snsBusy bitValue elapsed; rw [h1, h2, h3, h4, h5]

/-- The limits of 30_encoding.md R102 fit the 15-bit count. -/
theorem snsLimit_range (c : Config) (st : SnsState) (h : st ≠ .idle) : 40 ≤ snsLimit c st ∧ snsLimit c st ≤ 18000 := by
  have := c.tRel_range
  cases st <;> simp [snsLimit, snsStartLowUs, snsRespLowTo, snsRespHighTo, snsDataStartTo, snsBitStartTo, snsBitWidthTo] at *
  omega

/-- What `shift` does to each byte (42_sensor.md R184). -/
theorem shiftPayload_toNat (p : Vector Byte 5) (j : Nat) (b : Bool) (k : Nat) (h : k < 5) :
    ((shiftPayload p j b)[k]).toNat = if k = j then (2 * (p[k]).toNat + b.toNat) % 256 else (p[k]).toNat := by
  simp only [shiftPayload, Vector.getElem_ofFn]
  split
  · have := (p[k]).isLt
    have e : (0#7 ++ BitVec.ofBool b).toNat = b.toNat := by cases b <;> rfl
    have h2 : (p[k]).toNat * 2 ^ 1 % 2 ^ 8 = 2 ^ 1 * ((p[k]).toNat % 128) := by omega
    simp only [Fin.getElem_fin, BitVec.toNat_or, BitVec.toNat_shiftLeft, Nat.shiftLeft_eq, e]
    rw [h2, ← Nat.two_pow_add_eq_or_of_lt (by cases b <;> decide)]
    cases b <;> simp <;> omega
  · rfl

end Sys2Proof.Machine
end

