-- ==== Sys2Proof/Laws/Nec.lean ====
section
/-! SUPPORT. What the NEC operations compute: the tolerance test, and the loop over the bit-pairs (41_decoder.md R151, R156). -/

namespace Sys2Proof.Machine

theorem toleranceMatch_iff (m : Sample) (t : Nat) : toleranceMatch m t = true ↔ 100 * absDiff m.toNat t ≤ 30 * t :=
  decide_eq_true_iff

/-- No sample matches both spaces (R152), so a space that matches 1690 is a 1 and any other matching space a 0. -/
theorem spaceBit_eq (m : Sample) : spaceBit m =
    if toleranceMatch m 560 = true ∨ toleranceMatch m 1690 = true then some (toleranceMatch m 1690) else none := by
  have h : toleranceMatch m 560 = true → ¬ toleranceMatch m 1690 = true := by
    rw [toleranceMatch_iff, toleranceMatch_iff]; unfold absDiff; split <;> split <;> omega
  unfold spaceBit necZeroSpace necOneSpace
  cases h1 : toleranceMatch m 560 <;> cases h2 : toleranceMatch m 1690 <;> simp_all

/-- Bit-pair `i` passes the loop's two tests. -/
def goodPair (f : Nat → Sample) (i : Nat) : Prop :=
  toleranceMatch (f (2 * i + 2)) 560 = true ∧
    (toleranceMatch (f (2 * i + 3)) 560 = true ∨ toleranceMatch (f (2 * i + 3)) 1690 = true)

/-- The loop's next turn: a good pair shifts its bit in from below. -/
theorem necPairs_good {f : Nat → Sample} {i : Nat} (n : Nat) (w : Word) (h : goodPair f i) :
    necPairs f (n + 1) i w =
      necPairs f n (i + 1) ((w <<< 1) ||| (0#31 ++ BitVec.ofBool (toleranceMatch (f (2 * i + 3)) 1690))) := by
  have hb : spaceBit (f (2 * i + 3)) = some (toleranceMatch (f (2 * i + 3)) 1690) := by rw [spaceBit_eq, if_pos h.2]
  rw [necPairs]; simp only [necBitMark, h.1, if_true, hb]

/-- The first pair that is not good ends the loop, with the reason of its first failing test. -/
theorem necPairs_bad (f : Nat → Sample) (n : Nat) : ∀ (i k : Nat) (w : Word), k < n →
    (∀ j, i ≤ j → j < i + k → goodPair f j) → ¬ goodPair f (i + k) →
    necPairs f n i w =
      .error (if toleranceMatch (f (2 * (i + k) + 2)) 560 = true then .bitSpace else .bitMark) := by
  induction n with
  | zero => intro i k w h; omega
  | succ n ih =>
    intro i k w h hg hb
    rcases k with _ | k
    · simp only [Nat.add_zero] at hb ⊢
      rw [necPairs, necBitMark]
      by_cases hm : toleranceMatch (f (2 * i + 2)) 560 = true
      · rw [if_pos hm, if_pos hm, spaceBit_eq, if_neg (fun hs => hb ⟨hm, hs⟩)]
      · rw [if_neg hm, if_neg hm]
    · rw [necPairs_good n w (hg i (by omega) (by omega)), show i + (k + 1) = i + 1 + k by omega]
      exact ih (i + 1) k _ (by omega) (fun j h1 h2 => hg j (by omega) (by omega)) (by rwa [show i + 1 + k = i + (k + 1) by omega])

/-- `n` good pairs give a word whose low `n` bits are the pairs' bits, the first pair highest, above what `w` held. -/
theorem necPairs_ok (f : Nat → Sample) (n : Nat) : ∀ (i : Nat) (w : Word), n ≤ 32 →
    (∀ j, i ≤ j → j < i + n → goodPair f j) →
    ∃ v : Word, necPairs f n i w = .ok v ∧
      (∀ j, j < n → v.getLsbD (n - 1 - j) = toleranceMatch (f (2 * (i + j) + 3)) 1690) ∧
      (∀ k, n ≤ k → k < 32 → v.getLsbD k = w.getLsbD (k - n)) := by
  induction n with
  | zero => intro i w _ _; exact ⟨w, rfl, by intro j hj; omega, by simp⟩
  | succ n ih =>
    intro i w hn hg
    obtain ⟨v, h1, h2, h3⟩ := ih (i + 1) ((w <<< 1) ||| (0#31 ++ BitVec.ofBool (toleranceMatch (f (2 * i + 3)) 1690)))
      (by omega) (fun j h1 h2 => hg j (by omega) (by omega))
    refine ⟨v, by rw [necPairs_good n w (hg i (by omega) (by omega)), h1], ?_, ?_⟩
    · intro j hj
      rcases j with _ | j
      · have h := h3 n (by omega) (by omega)
        rw [Nat.sub_self] at h
        rw [show n + 1 - 1 - 0 = n by omega, h, show 2 * (i + 0) + 3 = 2 * i + 3 by omega]
        cases toleranceMatch (f (2 * i + 3)) 1690 <;> simp
      · rw [show n + 1 - 1 - (j + 1) = n - 1 - j by omega, h2 j (by omega), show i + 1 + j = i + (j + 1) by omega]
    · intro k hk hk2
      rw [h3 k (by omega) hk2]
      obtain ⟨m, hm⟩ : ∃ m, k - n = m + 1 := ⟨k - n - 1, by omega⟩
      rw [hm, show k - (n + 1) = m by omega]
      simp only [BitVec.getLsbD_or, BitVec.getLsbD_append, BitVec.getLsbD_shiftLeft]
      simp; omega

/-- The loop reads the two samples of each of its pairs and no others. -/
theorem necPairs_congr (f g : Nat → Sample) (n : Nat) : ∀ (i : Nat) (w : Word),
    (∀ k, k < 2 * (i + n) + 2 → f k = g k) → necPairs f n i w = necPairs g n i w := by
  induction n with
  | zero => intro i w h; rfl
  | succ n ih =>
    intro i w h
    have ih' := fun w => ih (i + 1) w (fun k hk => h k (by omega))
    simp only [necPairs, h (2 * i + 2) (by omega), h (2 * i + 3) (by omega), ih']

end Sys2Proof.Machine
end

