-- ==== Sys2Proof/Laws/PerInstr.lean ====
section
/-! SUPPORT. One lemma per operation for the family EncodeUnit: the word of an operation is a word of the unit that the
operation belongs to (30_encoding.md R105), so no unit's vector ever selects another unit's operation through the encoder. -/

/-- The encoder's word is one of the operation's own unit. -/
def Sys2Proof.Laws.EncodeUnit.Statement (i : Sys2Proof.Instr) : Prop := (Sys2Proof.encode i).unitOf = i.unitOf

theorem Sys2Proof.Laws.EncodeUnit.capOff : Sys2Proof.Laws.EncodeUnit.Statement .capOff := rfl
theorem Sys2Proof.Laws.EncodeUnit.capQuiet : Sys2Proof.Laws.EncodeUnit.Statement .capQuiet := rfl
theorem Sys2Proof.Laws.EncodeUnit.capTimeoutDeliver : Sys2Proof.Laws.EncodeUnit.Statement .capTimeoutDeliver := rfl
theorem Sys2Proof.Laws.EncodeUnit.capTimeoutEmpty : Sys2Proof.Laws.EncodeUnit.Statement .capTimeoutEmpty := rfl
theorem Sys2Proof.Laws.EncodeUnit.capBaseline : Sys2Proof.Laws.EncodeUnit.Statement .capBaseline := rfl
theorem Sys2Proof.Laws.EncodeUnit.capBoundaryDeliver : Sys2Proof.Laws.EncodeUnit.Statement .capBoundaryDeliver := rfl
theorem Sys2Proof.Laws.EncodeUnit.capBoundaryEmpty : Sys2Proof.Laws.EncodeUnit.Statement .capBoundaryEmpty := rfl
theorem Sys2Proof.Laws.EncodeUnit.capAppend : Sys2Proof.Laws.EncodeUnit.Statement .capAppend := rfl
theorem Sys2Proof.Laws.EncodeUnit.capDiscard : Sys2Proof.Laws.EncodeUnit.Statement .capDiscard := rfl
theorem Sys2Proof.Laws.EncodeUnit.decIdle : Sys2Proof.Laws.EncodeUnit.Statement .decIdle := rfl
theorem Sys2Proof.Laws.EncodeUnit.decNec : Sys2Proof.Laws.EncodeUnit.Statement .decNec := rfl
theorem Sys2Proof.Laws.EncodeUnit.decRepeat : Sys2Proof.Laws.EncodeUnit.Statement .decRepeat := rfl
theorem Sys2Proof.Laws.EncodeUnit.decBadlen : Sys2Proof.Laws.EncodeUnit.Statement .decBadlen := rfl
theorem Sys2Proof.Laws.EncodeUnit.snsIdle : Sys2Proof.Laws.EncodeUnit.Statement .snsIdle := rfl
theorem Sys2Proof.Laws.EncodeUnit.snsStartLowCont : Sys2Proof.Laws.EncodeUnit.Statement .snsStartLowCont := rfl
theorem Sys2Proof.Laws.EncodeUnit.snsStartLowEnd : Sys2Proof.Laws.EncodeUnit.Statement .snsStartLowEnd := rfl
theorem Sys2Proof.Laws.EncodeUnit.snsReleaseCont : Sys2Proof.Laws.EncodeUnit.Statement .snsReleaseCont := rfl
theorem Sys2Proof.Laws.EncodeUnit.snsReleaseEnd : Sys2Proof.Laws.EncodeUnit.Statement .snsReleaseEnd := rfl
theorem Sys2Proof.Laws.EncodeUnit.snsRespLowOk : Sys2Proof.Laws.EncodeUnit.Statement .snsRespLowOk := rfl
theorem Sys2Proof.Laws.EncodeUnit.snsRespLowWait : Sys2Proof.Laws.EncodeUnit.Statement .snsRespLowWait := rfl
theorem Sys2Proof.Laws.EncodeUnit.snsRespLowFail : Sys2Proof.Laws.EncodeUnit.Statement .snsRespLowFail := rfl
theorem Sys2Proof.Laws.EncodeUnit.snsRespHighOk : Sys2Proof.Laws.EncodeUnit.Statement .snsRespHighOk := rfl
theorem Sys2Proof.Laws.EncodeUnit.snsRespHighWait : Sys2Proof.Laws.EncodeUnit.Statement .snsRespHighWait := rfl
theorem Sys2Proof.Laws.EncodeUnit.snsRespHighFail : Sys2Proof.Laws.EncodeUnit.Statement .snsRespHighFail := rfl
theorem Sys2Proof.Laws.EncodeUnit.snsDataLowOk : Sys2Proof.Laws.EncodeUnit.Statement .snsDataLowOk := rfl
theorem Sys2Proof.Laws.EncodeUnit.snsDataLowWait : Sys2Proof.Laws.EncodeUnit.Statement .snsDataLowWait := rfl
theorem Sys2Proof.Laws.EncodeUnit.snsDataLowFail : Sys2Proof.Laws.EncodeUnit.Statement .snsDataLowFail := rfl
theorem Sys2Proof.Laws.EncodeUnit.snsBitHighOk : Sys2Proof.Laws.EncodeUnit.Statement .snsBitHighOk := rfl
theorem Sys2Proof.Laws.EncodeUnit.snsBitHighWait : Sys2Proof.Laws.EncodeUnit.Statement .snsBitHighWait := rfl
theorem Sys2Proof.Laws.EncodeUnit.snsBitHighFail : Sys2Proof.Laws.EncodeUnit.Statement .snsBitHighFail := rfl
theorem Sys2Proof.Laws.EncodeUnit.snsMeasureBit : Sys2Proof.Laws.EncodeUnit.Statement .snsMeasureBit := rfl
theorem Sys2Proof.Laws.EncodeUnit.snsMeasureLastOk : Sys2Proof.Laws.EncodeUnit.Statement .snsMeasureLastOk := rfl
theorem Sys2Proof.Laws.EncodeUnit.snsMeasureLastBad : Sys2Proof.Laws.EncodeUnit.Statement .snsMeasureLastBad := rfl
theorem Sys2Proof.Laws.EncodeUnit.snsMeasureWait : Sys2Proof.Laws.EncodeUnit.Statement .snsMeasureWait := rfl
theorem Sys2Proof.Laws.EncodeUnit.snsMeasureFail : Sys2Proof.Laws.EncodeUnit.Statement .snsMeasureFail := rfl
theorem Sys2Proof.Laws.EncodeUnit.busIdle : Sys2Proof.Laws.EncodeUnit.Statement .busIdle := rfl
theorem Sys2Proof.Laws.EncodeUnit.rdCtrl : Sys2Proof.Laws.EncodeUnit.Statement .rdCtrl := rfl
theorem Sys2Proof.Laws.EncodeUnit.rdCmd : Sys2Proof.Laws.EncodeUnit.Statement .rdCmd := rfl
theorem Sys2Proof.Laws.EncodeUnit.rdStatus : Sys2Proof.Laws.EncodeUnit.Statement .rdStatus := rfl
theorem Sys2Proof.Laws.EncodeUnit.rdIrResult : Sys2Proof.Laws.EncodeUnit.Statement .rdIrResult := rfl
theorem Sys2Proof.Laws.EncodeUnit.rdIrRaw : Sys2Proof.Laws.EncodeUnit.Statement .rdIrRaw := rfl
theorem Sys2Proof.Laws.EncodeUnit.rdIrLen : Sys2Proof.Laws.EncodeUnit.Statement .rdIrLen := rfl
theorem Sys2Proof.Laws.EncodeUnit.rdSnsResult : Sys2Proof.Laws.EncodeUnit.Statement .rdSnsResult := rfl
theorem Sys2Proof.Laws.EncodeUnit.rdSnsData0 : Sys2Proof.Laws.EncodeUnit.Statement .rdSnsData0 := rfl
theorem Sys2Proof.Laws.EncodeUnit.rdSnsData1 : Sys2Proof.Laws.EncodeUnit.Statement .rdSnsData1 := rfl
theorem Sys2Proof.Laws.EncodeUnit.rdRsvd (off : Sys2Proof.Byte) : Sys2Proof.Laws.EncodeUnit.Statement (.rdRsvd off) := rfl
theorem Sys2Proof.Laws.EncodeUnit.wrCtrl (wdata : Sys2Proof.Word) : Sys2Proof.Laws.EncodeUnit.Statement (.wrCtrl wdata) := rfl
theorem Sys2Proof.Laws.EncodeUnit.wrCmdNop (wdata : Sys2Proof.Word) : Sys2Proof.Laws.EncodeUnit.Statement (.wrCmdNop wdata) := rfl
theorem Sys2Proof.Laws.EncodeUnit.wrCmdSnsStart (wdata : Sys2Proof.Word) : Sys2Proof.Laws.EncodeUnit.Statement (.wrCmdSnsStart wdata) := rfl
theorem Sys2Proof.Laws.EncodeUnit.wrCmdRsvd (wdata : Sys2Proof.Word) : Sys2Proof.Laws.EncodeUnit.Statement (.wrCmdRsvd wdata) := rfl
theorem Sys2Proof.Laws.EncodeUnit.wrStatus (wdata : Sys2Proof.Word) : Sys2Proof.Laws.EncodeUnit.Statement (.wrStatus wdata) := rfl
theorem Sys2Proof.Laws.EncodeUnit.wrRo (off : Sys2Proof.Byte) (wdata : Sys2Proof.Word) : Sys2Proof.Laws.EncodeUnit.Statement (.wrRo off wdata) := rfl
theorem Sys2Proof.Laws.EncodeUnit.wrRsvd (off : Sys2Proof.Byte) (wdata : Sys2Proof.Word) : Sys2Proof.Laws.EncodeUnit.Statement (.wrRsvd off wdata) := rfl
theorem Sys2Proof.Laws.EncodeUnit.busMisaligned (off : Sys2Proof.Byte) (we : Bool) (wdata : Sys2Proof.Word) : Sys2Proof.Laws.EncodeUnit.Statement (.busMisaligned off we wdata) := rfl
end

