-- ==== Sys2Proof/Laws/Pulse.lean ====
section
/-! SUPPORT. The timer: what `pulse` is (40_capture.md R121) and how a tick changes it. -/

namespace Sys2Proof.Machine

/-- W is at least 17 (00_scope.md R7), so that no time up to the timeout wraps (40_capture.md R135). -/
theorem two_pow_w_ge (c : Config) : 131072 ≤ 2 ^ c.w := by
  have := Nat.pow_le_pow_right (n := 2) (by decide) c.w_range.1
  simpa using this

/-- `pulse` is the difference of NOW and LAST reduced mod 2^W, as an integer. -/
theorem pulse_eq {s : State} {p : Nat}
    (h : (p : Int) = ((s.now : Int) - (s.last : Int)) % ((2 ^ s.cfg.w : Nat) : Int)) : pulse s = p := by
  unfold pulse
  have hm : 0 < 2 ^ s.cfg.w := Nat.two_pow_pos _
  generalize 2 ^ s.cfg.w = M at *
  have h2 := Nat.mod_lt s.last hm
  have e : ((s.now % M + M - s.last % M : Nat) : Int) = (s.now : Int) % M + M - (s.last : Int) % M := by
    rw [Nat.cast_sub (by omega)]; push_cast; rfl
  have : (((s.now % M + M - s.last % M) % M : Nat) : Int) = p := by
    rw [h, Int.natCast_mod, e, Int.sub_emod, Int.add_emod_right, ← Int.sub_emod]
    exact (Int.sub_emod ..).symm
  exact_mod_cast this

/-- `pulse` depends on NOW, LAST and W alone. -/
theorem pulse_congr {s t : State} (hn : t.now = s.now) (hl : t.last = s.last) (hc : t.cfg = s.cfg) : pulse t = pulse s := by
  unfold pulse; rw [hn, hl, hc]

theorem add_one_mod (a m : Nat) (h : 1 < m) : (a + 1) % m = if a % m + 1 = m then 0 else a % m + 1 := by
  have := Nat.mod_lt a (show 0 < m by omega)
  rw [Nat.add_mod, Nat.mod_eq_of_lt h]
  split
  · rename_i h; rw [h, Nat.mod_self]
  · apply Nat.mod_eq_of_lt; omega

/-- After the end phase of a tick whose edge set LAST, the pulse is 1. -/
theorem pulse_after_edge {t : State} (now : Nat) (hn : t.now = (now + 1) % 2 ^ t.cfg.w) (hl : t.last = now) :
    pulse t = 1 := by
  unfold pulse
  have := two_pow_w_ge t.cfg
  rw [hn, hl]
  generalize 2 ^ t.cfg.w = M at *
  have h1 := Nat.mod_lt now (show 0 < M by omega)
  rw [Nat.mod_mod, add_one_mod _ _ (by omega)]
  split
  · rw [show 0 + M - now % M = 1 by omega]; apply Nat.mod_eq_of_lt; omega
  · rw [show now % M + 1 + M - now % M = 1 + M by omega, Nat.add_mod_right]; apply Nat.mod_eq_of_lt; omega

/-- A tick that leaves LAST alone adds 1 to a pulse that is within the timeout. -/
theorem pulse_after_tick {s t : State} (h : pulse s ≤ 100000) (hn : t.now = (s.now + 1) % 2 ^ s.cfg.w)
    (hl : t.last = s.last) (hc : t.cfg = s.cfg) : pulse t = pulse s + 1 := by
  unfold pulse at *
  rw [hn, hl, hc]
  have := two_pow_w_ge s.cfg
  generalize 2 ^ s.cfg.w = M at *
  have h1 := Nat.mod_lt s.now (show 0 < M by omega)
  have h2 := Nat.mod_lt s.last (show 0 < M by omega)
  rw [Nat.mod_mod, add_one_mod _ _ (by omega)]
  have big (x : Nat) (hx : M ≤ x) (hx2 : x < 2 * M) : x % M = x - M := by
    rw [Nat.mod_eq_sub_mod hx, Nat.mod_eq_of_lt (by omega)]
  have small (x : Nat) (hx : x < M) : x % M = x := Nat.mod_eq_of_lt hx
  generalize s.now % M = a at *
  generalize s.last % M = b at *
  rcases Nat.lt_or_ge (a + M - b) M with hlt | hge
  · rw [small _ hlt] at *
    split <;> (rw [small _ (by omega)]; omega)
  · rw [big _ hge (by omega)] at *
    split
    · rw [small _ (by omega)]; omega
    · rw [big _ (by omega) (by omega)]; omega

end Sys2Proof.Machine
end

