-- ==== Sys2Proof/Tests/Slice0.lean ====
section
/-! SUPPORT. The model's own tests. Expected values come from spec/95_test_vectors.md (its vector is named at each test) or from
the encodings of spec/30_encoding.md. The last section gives, for every statement with hypotheses, values that meet them. -/

open Sys2Proof Sys2Proof.Machine

namespace Sys2Proof.Tests

/-! ## Ill-formed terms that the check refuses (30_encoding.md R103) -/

theorem test_wf_rdRsvd : (Instr.rdRsvd 0x20#8).wellFormed = false ∧ (Instr.rdRsvd 0x26#8).wellFormed = false ∧
    (Instr.rdRsvd 0x24#8).wellFormed = true ∧ (Instr.rdRsvd 0xFC#8).wellFormed = true := by decide

theorem test_wf_wrCmdNop : (Instr.wrCmdNop 0x1#32).wellFormed = false ∧ (Instr.wrCmdNop 0xFFFFFFF0#32).wellFormed = true := by
  decide

theorem test_wf_wrCmdSnsStart : (Instr.wrCmdSnsStart 0x10#32).wellFormed = false ∧
    (Instr.wrCmdSnsStart 0x11#32).wellFormed = true := by decide

theorem test_wf_wrCmdRsvd : (Instr.wrCmdRsvd 0xFFFFFFF1#32).wellFormed = false ∧
    (Instr.wrCmdRsvd 0x2#32).wellFormed = true ∧ (Instr.wrCmdRsvd 0xF#32).wellFormed = true := by decide

theorem test_wf_wrRo : (Instr.wrRo 0x08#8 0#32).wellFormed = false ∧ (Instr.wrRo 0x24#8 0#32).wellFormed = false ∧
    (Instr.wrRo 0x0C#8 0#32).wellFormed = true ∧ (Instr.wrRo 0x20#8 0#32).wellFormed = true := by decide

theorem test_wf_wrRsvd : (Instr.wrRsvd 0x20#8 0#32).wellFormed = false ∧ (Instr.wrRsvd 0x25#8 0#32).wellFormed = false ∧
    (Instr.wrRsvd 0x24#8 0#32).wellFormed = true := by decide

theorem test_wf_busMisaligned : (Instr.busMisaligned 0x24#8 true 0#32).wellFormed = false ∧
    (Instr.busMisaligned 0xFF#8 false 0#32).wellFormed = true := by decide

/-! ## Words written out, one or more for every operation -/

/-- What the decoder gives for a word. -/
def dec (u : UnitWord) : Option Instr := (decode u).toOption

/-- R100, bits HAS DUE ROOM LONG BV EDGE EN from the left. -/
theorem test_decode_capture :
    dec (.capVec 0b1111110#7) = some .capOff ∧
    dec (.capVec 0b1011101#7) = some .capQuiet ∧
    dec (.capVec 0b1110101#7) = some .capTimeoutDeliver ∧
    dec (.capVec 0b0111101#7) = some .capTimeoutEmpty ∧
    dec (.capVec 0b1111011#7) = some .capBaseline ∧
    dec (.capVec 0b1111111#7) = some .capBoundaryDeliver ∧
    dec (.capVec 0b0111111#7) = some .capBoundaryEmpty ∧
    dec (.capVec 0b0010111#7) = some .capAppend ∧
    dec (.capVec 0b1000111#7) = some .capDiscard := by decide

/-- R101, bits RPT GT50 PEND from the left. -/
theorem test_decode_decoder :
    dec (.decVec 0b100#3) = some .decIdle ∧ dec (.decVec 0b011#3) = some .decNec ∧
    dec (.decVec 0b101#3) = some .decRepeat ∧ dec (.decVec 0b001#3) = some .decBadlen := by decide

/-- R102, bits CSUM FINAL END D STATE from the left. -/
theorem test_decode_sensor :
    dec (.snsVec 0b1_1_1_1_000#7) = some .snsIdle ∧
    dec (.snsVec 0b0_0_0_1_001#7) = some .snsStartLowCont ∧ dec (.snsVec 0b0_0_1_0_001#7) = some .snsStartLowEnd ∧
    dec (.snsVec 0b0_0_0_1_010#7) = some .snsReleaseCont ∧ dec (.snsVec 0b0_0_1_1_010#7) = some .snsReleaseEnd ∧
    dec (.snsVec 0b0_0_1_0_011#7) = some .snsRespLowOk ∧ dec (.snsVec 0b0_0_0_1_011#7) = some .snsRespLowWait ∧
    dec (.snsVec 0b0_0_1_1_011#7) = some .snsRespLowFail ∧
    dec (.snsVec 0b0_0_1_1_100#7) = some .snsRespHighOk ∧ dec (.snsVec 0b0_0_0_0_100#7) = some .snsRespHighWait ∧
    dec (.snsVec 0b0_0_1_0_100#7) = some .snsRespHighFail ∧
    dec (.snsVec 0b0_0_1_0_101#7) = some .snsDataLowOk ∧ dec (.snsVec 0b0_0_0_1_101#7) = some .snsDataLowWait ∧
    dec (.snsVec 0b0_0_1_1_101#7) = some .snsDataLowFail ∧
    dec (.snsVec 0b0_0_1_1_110#7) = some .snsBitHighOk ∧ dec (.snsVec 0b0_0_0_0_110#7) = some .snsBitHighWait ∧
    dec (.snsVec 0b0_0_1_0_110#7) = some .snsBitHighFail ∧
    dec (.snsVec 0b1_0_1_0_111#7) = some .snsMeasureBit ∧ dec (.snsVec 0b1_1_0_0_111#7) = some .snsMeasureLastOk ∧
    dec (.snsVec 0b0_1_0_0_111#7) = some .snsMeasureLastBad ∧ dec (.snsVec 0b0_1_0_1_111#7) = some .snsMeasureWait ∧
    dec (.snsVec 0b0_1_1_1_111#7) = some .snsMeasureFail := by decide

/-- R98: the word is wdata, then we, then off. -/
theorem test_decode_reads :
    dec .busNone = some .busIdle ∧
    dec (.busReq 0b00000000000000000000000000000000_0_00000000#41) = some .rdCtrl ∧
    dec (.busReq 0b00000000000000000000000000000000_0_00000100#41) = some .rdCmd ∧
    dec (.busReq 0b00000000000000000000000000000000_0_00001000#41) = some .rdStatus ∧
    dec (.busReq 0b00000000000000000000000000000000_0_00001100#41) = some .rdIrResult ∧
    dec (.busReq 0b00000000000000000000000000000000_0_00010000#41) = some .rdIrRaw ∧
    dec (.busReq 0b00000000000000000000000000000000_0_00010100#41) = some .rdIrLen ∧
    dec (.busReq 0b00000000000000000000000000000000_0_00011000#41) = some .rdSnsResult ∧
    dec (.busReq 0b00000000000000000000000000000000_0_00011100#41) = some .rdSnsData0 ∧
    dec (.busReq 0b00000000000000000000000000000000_0_00100000#41) = some .rdSnsData1 ∧
    dec (.busReq 0b00000000000000000000000000000000_0_00100100#41) = some (.rdRsvd 0x24#8) ∧
    dec (.busReq 0b00000000000000000000000000000000_0_11111100#41) = some (.rdRsvd 0xFC#8) := by decide

/-- VB1, VB3–VB8, VB10, VB11 and R103. -/
theorem test_decode_writes :
    dec (.busReq 0x1FFFFFFFF00#41) = some (.wrCtrl 0xFFFFFFFF#32) ∧
    dec (.busReq 0x1FFFFFFE104#41) = some (.wrCmdNop 0xFFFFFFF0#32) ∧
    dec (.busReq 0x00000002304#41) = some (.wrCmdSnsStart 0x11#32) ∧
    dec (.busReq 0x00000000504#41) = some (.wrCmdRsvd 0x2#32) ∧
    dec (.busReq 0b00000000000000000000000000001111_1_00000100#41) = some (.wrCmdRsvd 0xF#32) ∧
    dec (.busReq 0x00000001108#41) = some (.wrStatus 0x8#32) ∧
    dec (.busReq 0x02468ACF10C#41) = some (.wrRo 0x0C#8 0x12345678#32) ∧
    dec (.busReq 0b10000000000000000000000000000001_1_00100000#41) = some (.wrRo 0x20#8 0x80000001#32) ∧
    dec (.busReq 0x00000000324#41) = some (.wrRsvd 0x24#8 0x1#32) ∧
    dec (.busReq 0x00000000002#41) = some (.busMisaligned 0x02#8 false 0#32) ∧
    dec (.oddSize 0x04#8 true 1#32) = some (.busMisaligned 0x04#8 true 1#32) := by decide

/-- A number with a bit above its format's width is no word of the format. -/
theorem test_decode_rejects_by_name :
    (match decodeNat .capture 0x80 with | .error e => some e | .ok _ => none) = some .bitsAboveVector ∧
    (match decodeNat .decoder 8 with | .error e => some e | .ok _ => none) = some .bitsAboveVector ∧
    (match decodeNat .sensor 200 with | .error e => some e | .ok _ => none) = some .bitsAboveVector ∧
    (match decodeNat .bus (2 ^ 41) with | .error e => some e | .ok _ => none) = some .bitsAboveVector := by decide

/-! ## Single operations and ticks -/

/-- What a part of the next state is; none if there is no next state. -/
def after {α : Type} (o : Answer) (f : State → α) : Option α :=
  match o with
  | .next t => some (f t)
  | _ => none

/-- The inputs of a quiet tick (95_test_vectors.md, section 0). -/
def quiet : TickInput := ⟨false, true, true, none⟩

/-- A tick with an edge, from PREV_IR = 1. -/
def edge : TickInput := ⟨false, false, true, none⟩

/-- A tick with a request. -/
def request (off : Byte) (we : Bool) (wdata : Word) : TickInput := ⟨false, true, true, some ⟨off, we, wdata, 4⟩⟩

/-- A state of the capture unit (section 2), enabled. -/
def cap (idx : Nat) (bv armed : Bool) (last now : Nat) (inp : TickInput) : State :=
  { State.reset with
    ctrl := ⟨true, false, false⟩, idx := BitVec.ofNat 16 idx, baseValid := bv, toArmed := armed, last := last, now := now
    inputs := [inp] }

/-- `(IDX, BASE_VALID, TO_ARMED, LAST)`. -/
def capView (s : State) : Nat × Bool × Bool × Nat := (s.idx.toNat, s.baseValid, s.toArmed, s.last)

/-- `(DEC_LEN, ACTIVE, DEC_PEND)`. -/
def swapView (s : State) : Nat × Bool × Bool := (s.decLen.toNat, s.active, s.decPend)

/-- VC1. -/
theorem test_capOff : after (step (cap 12 true true 7 100 (request 0x00#8 true 0#32))) (fun t => (capView t, swapView t)) =
    some ((0, false, false, 7), (0, false, false)) := by decide

/-- VC2. -/
theorem test_capQuiet : after (step (cap 5 true true 1000 1300 quiet)) (fun t => (capView t, t.now)) =
    some ((5, true, true, 1000), 1301) := by decide

/-- VC4: not due at 99999. -/
theorem test_capQuiet_not_due : after (step (cap 67 true true 5000 104999 quiet)) (fun t => (capView t, swapView t)) =
    some ((67, true, true, 5000), (0, false, false)) := by decide

/-- VC3. -/
theorem test_capTimeoutDeliver : after (step (cap 67 true true 5000 105000 quiet)) (fun t => (capView t, swapView t)) =
    some ((0, false, false, 5000), (67, true, true)) := by decide

/-- VC6. -/
theorem test_capTimeoutEmpty : after (step (cap 0 true true 0 100000 quiet)) (fun t => (capView t, swapView t)) =
    some ((0, false, false, 0), (0, false, false)) := by decide

/-- VC7. -/
theorem test_capBaseline : after (step (cap 0 false false 7 1000 edge)) (fun t => (capView t, t.prevIr, t.buf)) =
    some ((0, true, true, 1000), false, []) := by decide

/-- VC14: the extra baseline of the first tick after reset. -/
theorem test_capBaseline_after_reset :
    after (step { State.reset with inputs := [⟨false, false, true, some ⟨0x00#8, true, 1#32, 4⟩⟩] }) capView =
    some (0, true, true, 0) := by decide

/-- VC9: a pulse of 15001 ends the burst and is not stored. -/
theorem test_capBoundaryDeliver :
    after (step (cap 5 true true 1000 16001 edge)) (fun t => (capView t, swapView t, t.buf)) =
    some ((0, true, true, 16001), (5, true, true), []) := by decide

/-- VC5: an edge in the tick of the timeout wins. -/
theorem test_capBoundaryDeliver_over_timeout :
    after (step (cap 67 true true 5000 105000 edge)) (fun t => (capView t, swapView t)) =
    some ((0, true, true, 105000), (67, true, true)) := by decide

/-- VC10. -/
theorem test_capBoundaryEmpty : after (step (cap 0 true true 0 20000 edge)) (fun t => (capView t, swapView t)) =
    some ((0, true, true, 20000), (0, false, false)) := by decide

/-- VC8: 15000 is still a sample. -/
theorem test_capAppend : after (step (cap 0 true true 1000 16000 edge)) (fun t => (capView t, bufRead t false 0)) =
    some ((1, true, true, 16000), 15000#16) := by decide

/-- VC13: W = 17, the timer wraps. -/
theorem test_capAppend_wraps :
    after (step { cap 3 true true 131000 528 edge with
        cfg := { Config.reference with w := 17, w_range := by decide } })
      (fun t => (capView t, bufRead t false 3)) =
    some ((4, true, true, 528), 600#16) := by decide

/-- VC11. -/
theorem test_capDiscard :
    after (step (cap 100 true true 500 513 edge)) (fun t => (capView t, swapView t, t.buf)) =
    some ((0, false, true, 513), (0, false, false), []) := by decide

/-- The samples 0..66 of the ideal frame F(w) (section 0). -/
def frame (w : Word) (k : Nat) : Nat :=
  if k = 0 then 9000 else if k = 1 then 4500
  else if k % 2 = 1 ∧ k < 66 ∧ w.getLsbD (31 - (k - 3) / 2) = true then 1690 else 560

/-- Bank 1 (the decode bank while ACTIVE is 0) holding the samples 0..66 of a function. -/
def bank1 (f : Nat → Nat) : Memory := (List.range 67).map fun k => (65536 + k, BitVec.ofNat 16 (f k))

/-- A pending decode of the given samples (section 3). -/
def pending (len : Nat) (f : Nat → Nat) : State :=
  { State.reset with decPend := true, decLen := BitVec.ofNat 16 len, buf := bank1 f, inputs := [quiet] }

/-- F(0x00FF45BA) with sample k replaced. -/
def replaced (k v : Nat) (i : Nat) : Nat := if i = k then v else frame 0x00FF45BA#32 i

/-- IR_RESULT, IR_RAW, IR_LEN and STATUS after the tick. -/
def resultView (s : State) : Word × Word × Word × Word :=
  (irResultWord s.irResult, s.irRaw, irLenWord s.irLen, statusWord s)

set_option maxRecDepth 20000 in
/-- VD1, VD14–VD18: whole words. -/
theorem test_decNec_words :
    after (step (pending 67 (frame 0x00FF45BA#32))) resultView = some (0xFF450001#32, 0x00FF45BA#32, 0x43#32, 0x1#32) ∧
    after (step (pending 67 (frame 0x00FE45BA#32))) resultView = some (0xFF000063#32, 0x00FE45BA#32, 0x43#32, 0x1#32) ∧
    after (step (pending 67 (frame 0x00FF45BB#32))) resultView = some (0xFF000073#32, 0x00FF45BB#32, 0x43#32, 0x1#32) ∧
    after (step (pending 67 (frame 0x04FB45BA#32))) resultView = some (0xFF450401#32, 0x04FB45BA#32, 0x43#32, 0x1#32) ∧
    after (step (pending 67 (frame 0x00004545#32))) resultView = some (0xFF000063#32, 0x00004545#32, 0x43#32, 0x1#32) := by
  decide

/-- IR_RESULT of F with one sample replaced. -/
def withSample (k v : Nat) : Option Word := after (exec .decNec (pending 67 (replaced k v))) fun t => irResultWord t.irResult

set_option maxRecDepth 20000 in
/-- VD2–VD13: the edges of every window. -/
theorem test_decNec_windows :
    withSample 0 6299 = some 0xFF000023#32 ∧ withSample 0 6300 = some 0xFF450001#32 ∧
    withSample 0 11700 = some 0xFF450001#32 ∧ withSample 0 11701 = some 0xFF000023#32 ∧
    withSample 1 3149 = some 0xFF000033#32 ∧ withSample 1 3150 = some 0xFF450001#32 ∧
    withSample 1 5850 = some 0xFF450001#32 ∧ withSample 1 5851 = some 0xFF000033#32 ∧
    withSample 2 391 = some 0xFF000043#32 ∧ withSample 2 728 = some 0xFF450001#32 ∧
    withSample 2 1690 = some 0xFF000043#32 ∧
    withSample 3 391 = some 0xFF000053#32 ∧ withSample 3 728 = some 0xFF450001#32 ∧
    withSample 3 1182 = some 0xFF000053#32 ∧ withSample 3 1183 = some 0xFF000063#32 ∧
    withSample 3 2197 = some 0xFF000063#32 ∧ withSample 3 2198 = some 0xFF000053#32 := by decide

/-- VD19, X2. -/
theorem test_decRepeat :
    after (step (pending 1 (fun _ => 0))) resultView = some (0xFF000002#32, 0#32, 0x1#32, 0x1#32) ∧
    after (step (pending 9 (fun _ => 0))) resultView = some (0xFF000002#32, 0#32, 0x9#32, 0x1#32) := by decide

/-- VD20, VD21. -/
theorem test_decBadlen :
    after (step (pending 10 (fun _ => 0))) resultView = some (0xFF000013#32, 0#32, 0xA#32, 0x1#32) ∧
    after (step (pending 50 (fun _ => 0))) resultView = some (0xFF000013#32, 0#32, 0x32#32, 0x1#32) ∧
    after (step (pending 0 (fun _ => 0))) resultView = some (0xFF000013#32, 0#32, 0#32, 0x1#32) := by decide

/-- VD28. -/
theorem test_decIdle : after (step { pending 67 (frame 0x00FF45BA#32) with decPend := false }) resultView =
    some (0#32, 0#32, 0#32, 0#32) := by decide

set_option maxRecDepth 20000 in
/-- VD23: the button table is applied; VD26, VD27: overrun, and the host's clear comes first. -/
theorem test_publish :
    after (step { pending 67 (frame 0x00FF45BA#32) with
        cfg := { Config.reference with buttons := [(0x45#8, 0x02#8)], buttons_mapped := by decide } }) resultView =
      some (0x02450001#32, 0x00FF45BA#32, 0x43#32, 0x1#32) ∧
    after (step { pending 9 (fun _ => 0) with status := ⟨true, false, false, false⟩ }) resultView =
      some (0xFF000002#32, 0#32, 0x9#32, 0x3#32) ∧
    after (step { pending 9 (fun _ => 0) with
        status := ⟨true, false, false, false⟩, inputs := [request 0x08#8 true 1#32] }) resultView =
      some (0xFF000002#32, 0#32, 0x9#32, 0x1#32) := by decide

/-- A state of the reader, with the line's level in the next tick. -/
def sns (st : SnsState) (cnt nbits : Nat) (p : Vector Byte 5) (d : Bool) : State :=
  { State.reset with
    snsState := st, snsCnt := BitVec.ofNat 15 cnt, snsNbits := BitVec.ofNat 6 nbits, payload := p
    inputs := [{ quiet with dqIn := d }] }

/-- No byte received. -/
def noBytes : Vector Byte 5 := #v[0#8, 0#8, 0#8, 0#8, 0#8]

/-- SNS_RESULT, SNS_CNT, dq_oe and SNS_DONE. -/
def snsView (s : State) : Word × Nat × Bool × Bool :=
  (snsResultWord s.snsState s.snsNbits s.snsCode, s.snsCnt.toNat, s.dqOe, s.status.snsDone)

theorem test_snsIdle : after (step (sns .idle 0 0 noBytes false)) snsView = some (0x0000000F#32, 0, false, false) := by decide

/-- R181, R187, R188: the line is driven in every tick that begins in START_LOW, and 18000 ticks end it. -/
theorem test_snsStartLowCont : after (step (sns .startLow 17998 0 noBytes true)) snsView =
    some (0x0001000F#32, 17999, true, false) := by decide
theorem test_snsStartLowEnd : after (step (sns .startLow 17999 0 noBytes true)) snsView =
    some (0x0002000F#32, 0, true, false) := by decide

theorem test_snsReleaseCont : after (step (sns .release 38 0 noBytes false)) snsView =
    some (0x0002000F#32, 39, false, false) := by decide
theorem test_snsReleaseEnd : after (step (sns .release 39 0 noBytes false)) snsView =
    some (0x0003000F#32, 0, false, false) := by decide

/-- VS2: a low at e = 100 is accepted; VS1: a high at e = 100 fails. -/
theorem test_snsRespLowOk : after (step (sns .respLow 99 0 noBytes false)) snsView =
    some (0x0004000F#32, 0, false, false) := by decide
theorem test_snsRespLowWait : after (step (sns .respLow 98 0 noBytes true)) snsView =
    some (0x0003000F#32, 99, false, false) := by decide
theorem test_snsRespLowFail : after (step (sns .respLow 99 0 noBytes true)) snsView =
    some (0x00000001#32, 0, false, true) := by decide

/-- VS4. -/
theorem test_snsRespHighOk : after (step (sns .respHigh 99 0 noBytes true)) snsView =
    some (0x0005000F#32, 0, false, false) := by decide
theorem test_snsRespHighWait : after (step (sns .respHigh 98 0 noBytes false)) snsView =
    some (0x0004000F#32, 99, false, false) := by decide
theorem test_snsRespHighFail : after (step (sns .respHigh 99 0 noBytes false)) snsView =
    some (0x00000002#32, 0, false, true) := by decide

/-- VS5. -/
theorem test_snsDataLowOk : after (step (sns .dataLow 99 0 noBytes false)) snsView =
    some (0x0006000F#32, 0, false, false) := by decide
theorem test_snsDataLowWait : after (step (sns .dataLow 98 0 noBytes true)) snsView =
    some (0x0005000F#32, 99, false, false) := by decide
theorem test_snsDataLowFail : after (step (sns .dataLow 99 0 noBytes true)) snsView =
    some (0x00000003#32, 0, false, true) := by decide

/-- VS7: a bit low of exactly 70 is accepted; VS6. -/
theorem test_snsBitHighOk : after (step (sns .bitHigh 69 0 noBytes true)) snsView =
    some (0x0007000F#32, 0, false, false) := by decide
theorem test_snsBitHighWait : after (step (sns .bitHigh 68 0 noBytes false)) snsView =
    some (0x0006000F#32, 69, false, false) := by decide
theorem test_snsBitHighFail : after (step (sns .bitHigh 69 0 noBytes false)) snsView =
    some (0x00000004#32, 0, false, true) := by decide

/-- VS8: 40 ticks are a 0, 41 and 120 a 1; the bit enters its byte from below. -/
theorem test_snsMeasureBit :
    after (step (sns .bitMeasure 39 9 #v[60#8, 1#8, 0#8, 0#8, 0#8] false)) (fun t => (snsView t, snsData0Word t.payload)) =
      some ((0x00060A0F#32, 0, false, false), 0x0000023C#32) ∧
    after (step (sns .bitMeasure 40 9 #v[60#8, 1#8, 0#8, 0#8, 0#8] false)) (fun t => snsData0Word t.payload) =
      some 0x0000033C#32 ∧
    after (step (sns .bitMeasure 119 9 #v[60#8, 1#8, 0#8, 0#8, 0#8] false)) (fun t => snsData0Word t.payload) =
      some 0x0000033C#32 := by decide

/-- VS9, X3: the last bit of [60, 0, 25, 0, 85]. -/
theorem test_snsMeasureLastOk :
    after (step (sns .bitMeasure 69 39 #v[60#8, 0#8, 25#8, 0#8, 42#8] false))
      (fun t => (snsView t, snsData0Word t.payload, snsData1Word t.payload)) =
    some ((0x00002800#32, 0, false, true), 0x0019003C#32, 0x00000055#32) := by decide

/-- X4: the last bit of [60, 0, 25, 0, 86]. -/
theorem test_snsMeasureLastBad :
    after (step (sns .bitMeasure 26 39 #v[60#8, 0#8, 25#8, 0#8, 43#8] false))
      (fun t => (snsView t, snsData0Word t.payload, snsData1Word t.payload)) =
    some ((0x00002806#32, 0, false, true), 0x0019003C#32, 0x00000056#32) := by decide

/-- VS12: a high of 120 ticks fails with the bits received so far. -/
theorem test_snsMeasureWait : after (step (sns .bitMeasure 118 17 #v[60#8, 0#8, 1#8, 0#8, 0#8] true)) snsView =
    some (0x0007110F#32, 119, false, false) := by decide
theorem test_snsMeasureFail :
    after (step (sns .bitMeasure 119 17 #v[60#8, 0#8, 1#8, 0#8, 0#8] true)) (fun t => (snsView t, snsData0Word t.payload)) =
    some ((0x00001105#32, 0, false, true), 0x0001003C#32) := by decide

/-- A state with a value in every register. -/
def busy : State :=
  { State.reset with
    ctrl := ⟨true, false, true⟩
    status := ⟨true, true, true, true⟩
    irResult := ⟨.data, .noReason, 0x04#8, 0x45#8, 0x02#8⟩
    irRaw := 0x04FB45BA#32
    irLen := 67#16
    snsState := .bitHigh
    snsNbits := 17#6
    payload := #v[60#8, 0#8, 25#8, 7#8, 85#8] }

/-- rdata after a request in `busy`. -/
def answer (off : Byte) (we : Bool) (wdata : Word) : Option (Option Word) :=
  after (step { busy with inputs := [request off we wdata] }) (·.rdata)

theorem test_busIdle : after (step { busy with rdata := some 1#32, inputs := [quiet] }) (·.rdata) = some none := by decide
theorem test_rdCtrl : answer 0x00#8 false 0#32 = some (some 0x00000005#32) := by decide
/-- VB2. -/
theorem test_rdCmd : answer 0x04#8 false 0#32 = some (some 0#32) := by decide
theorem test_rdStatus : answer 0x08#8 false 0#32 = some (some 0x0000001F#32) := by decide
theorem test_rdIrResult : answer 0x0C#8 false 0#32 = some (some 0x02450401#32) := by decide
theorem test_rdIrRaw : answer 0x10#8 false 0#32 = some (some 0x04FB45BA#32) := by decide
theorem test_rdIrLen : answer 0x14#8 false 0#32 = some (some 0x00000043#32) := by decide
theorem test_rdSnsResult : answer 0x18#8 false 0#32 = some (some 0x0006110F#32) := by decide
theorem test_rdSnsData0 : answer 0x1C#8 false 0#32 = some (some 0x0719003C#32) := by decide
theorem test_rdSnsData1 : answer 0x20#8 false 0#32 = some (some 0x00000055#32) := by decide
/-- VB9. -/
theorem test_rdRsvd : answer 0x80#8 false 0#32 = some (some 0#32) := by decide

/-- VB1. -/
theorem test_wrCtrl : after (step { State.reset with inputs := [request 0x00#8 true 0xFFFFFFFF#32] })
    (fun t => (ctrlWord t.ctrl, t.rdata)) = some (0x00000007#32, none) := by decide

/-- CTRL, STATUS and SNS_RESULT after a write in a state. -/
def written (s : State) (off : Byte) (wdata : Word) : Option (Word × Word × Word) :=
  after (step { s with inputs := [request off true wdata] })
    (fun t => (ctrlWord t.ctrl, statusWord t, snsResultWord t.snsState t.snsNbits t.snsCode))

/-- VB4. -/
theorem test_wrCmdNop : written State.reset 0x04#8 0xFFFFFFF0#32 = some (0#32, 0#32, 0x0000000F#32) := by decide
/-- VB5. -/
theorem test_wrCmdSnsStart : written State.reset 0x04#8 0x11#32 = some (0#32, 0x00000008#32, 0x0001000F#32) := by decide
/-- VS14: a second start is refused. -/
theorem test_wrCmdSnsStart_busy : written { busy with status := ⟨false, false, false, false⟩, ctrl := ⟨false, false, false⟩ }
    0x04#8 1#32 = some (0#32, 0x00000018#32, 0x0007110F#32) := by decide
/-- VB3. -/
theorem test_wrCmdRsvd : written State.reset 0x04#8 0x2#32 = some (0#32, 0x00000010#32, 0x0000000F#32) := by decide
/-- VB6, VB7. -/
theorem test_wrStatus : written busy 0x08#8 0x8#32 = some (5#32, 0x0000001F#32, 0x0007110F#32) ∧
    written busy 0x08#8 0x17#32 = some (5#32, 0x00000008#32, 0x0007110F#32) := by decide
/-- VB8. -/
theorem test_wrRo : after (step { busy with inputs := [request 0x0C#8 true 0x12345678#32] })
    (fun t => (irResultWord t.irResult, t.rdata)) = some (0x02450401#32, none) := by decide
/-- VB10. -/
theorem test_wrRsvd : written State.reset 0x24#8 1#32 = some (0#32, 0#32, 0x0000000F#32) := by decide
/-- VB11: refused, no successor state. -/
theorem test_busMisaligned : (match step { State.reset with inputs := [request 0x02#8 false 0#32] } with
    | .refused r => some r | _ => none) = some .outsideContract := by decide

/-- VI1, VI2, VI4: irq is the level of the enabled pending sources. -/
theorem test_irq :
    after (step { State.reset with status := ⟨true, false, false, false⟩, ctrl := ⟨true, false, false⟩,
                                   inputs := [request 0x00#8 true 3#32] }) (·.irq) = some true ∧
    after (step { State.reset with status := ⟨true, false, false, false⟩, ctrl := ⟨true, true, false⟩,
                                   inputs := [request 0x08#8 true 1#32] }) (·.irq) = some false ∧
    after (step { State.reset with status := ⟨true, true, false, true⟩, ctrl := ⟨false, false, true⟩,
                                   inputs := [quiet] }) (·.irq) = some false := by decide

/-- VI5: a reset tick drops its request and resets every register. -/
theorem test_reset_tick :
    after (step { busy with now := 77, inputs := [⟨true, false, false, some ⟨0x00#8, true, 7#32, 4⟩⟩] })
      (fun t => (t.now, t.prevIr, [ctrlWord t.ctrl, statusWord t, irResultWord t.irResult,
        snsResultWord t.snsState t.snsNbits t.snsCode, snsData0Word t.payload])) =
    some (0, true, [0#32, 0#32, 0#32, 0x0000000F#32, 0#32]) := by decide

/-- VB13: a read in the tick of a publication sees the old value (20_memory.md R64). -/
theorem test_read_before_publication :
    after (step { pending 9 (fun _ => 0) with inputs := [request 0x08#8 false 0#32] })
      (fun t => (t.rdata, statusWord t)) = some (some 0#32, 1#32) := by decide

/-- The host's fetch: a request word is placed as the next tick's request, and the tick runs it. -/
theorem test_withFetchWord : decodeTableWord 48 0x1FFFFFFFF00 = some (.wrCtrl 0xFFFFFFFF#32) ∧
    after (step (State.reset.withFetchWord 48 0x1FFFFFFFF00)) (fun t => ctrlWord t.ctrl) = some 7#32 ∧
    decodeTableWord 8 0x67 = some .snsMeasureLastOk ∧
    after (step (State.reset.withFetchWord 8 0x67)) (fun t => (t.snsCode, t.snsNbits)) = some (.ok, 40#6) := by decide

/-! ## Values that meet the hypotheses of each statement, at the boundaries of its clauses -/

/-- A tick within the contract has a next state. -/
theorem answers (s : State) (h : inputInContract (tickInput s) = true) : ∃ t, step s = .next t := by
  rcases tick_answer (tickInput s) (takeInput s) with ⟨_, h'⟩ | ⟨h', _⟩
  · exact h'
  · exact absurd (h.symm.trans h') (by decide)

theorem test_hyp_DecodeOfEncodeIsInstr : (Instr.capAppend).wellFormed = true ∧
    (Instr.wrRsvd 0xFC#8 0xFFFFFFFF#32).wellFormed = true ∧ (Instr.busMisaligned 0x01#8 true 0#32).wellFormed = true := by
  decide

theorem test_hyp_RequestWordsDecodeAsTheirRow : ∃ r ∈ busRows, r.hits 0x504#41 = true :=
  ⟨⟨0x5FF#41, 0x504#41, "WR_CMD_RSVD"⟩, by decide, by decide⟩

/-- The request word of an access. -/
def req (off : Byte) (we : Bool) (wdata : Word) : Option Instr := dec (busWordOf (some ⟨off, we, wdata, 4⟩))

theorem test_hyp_BusOperationSelection :
    req 0x01#8 false 0#32 = some (.busMisaligned 0x01#8 false 0#32) ∧
    req 0xFF#8 true 5#32 = some (.busMisaligned 0xFF#8 true 5#32) ∧
    req 0x20#8 false 0#32 = some .rdSnsData1 ∧ req 0x24#8 false 0#32 = some (.rdRsvd 0x24#8) ∧
    req 0xFC#8 false 0#32 = some (.rdRsvd 0xFC#8) ∧ req 0x04#8 true 0x10#32 = some (.wrCmdNop 0x10#32) ∧
    req 0x04#8 true 0x11#32 = some (.wrCmdSnsStart 0x11#32) ∧ req 0x04#8 true 0x12#32 = some (.wrCmdRsvd 0x12#32) ∧
    req 0x04#8 true 0x1F#32 = some (.wrCmdRsvd 0x1F#32) ∧ req 0x0C#8 true 0#32 = some (.wrRo 0x0C#8 0#32) ∧
    req 0x20#8 true 0#32 = some (.wrRo 0x20#8 0#32) ∧ req 0x24#8 true 0#32 = some (.wrRsvd 0x24#8 0#32) := by decide

/-- The pulse of a capture state, as the statements say it. -/
def isPulse (s : State) (p : Nat) : Prop := (p : Int) = ((s.now : Int) - (s.last : Int)) % ((2 ^ s.cfg.w : Nat) : Int)

theorem test_hyp_CaptureSelection :
    isPulse (cap 0 true true 1000 16000 edge) 15000 ∧ isPulse (cap 0 true true 1000 16001 edge) 15001 ∧
    isPulse (cap 0 true true 5000 104999 edge) 99999 ∧ isPulse (cap 0 true true 5000 105000 edge) 100000 ∧
    isPulse (cap 0 true true 4294967295 0 edge) 1 ∧
    dec (.capVec (captureVector false (cap 99 true true 1000 16000 edge))) = some .capAppend ∧
    dec (.capVec (captureVector false (cap 100 true true 1000 16000 edge))) = some .capDiscard ∧
    dec (.capVec (captureVector false (cap 1 true true 1000 16001 edge))) = some .capBoundaryDeliver := by
  unfold isPulse; decide

theorem test_hyp_DecoderSelection :
    [0, 1, 9, 10, 50, 51].map (fun n => dec (.decVec (decoderVector (pending n (fun _ => 0))))) =
      [some .decBadlen, some .decRepeat, some .decRepeat, some .decBadlen, some .decBadlen, some .decNec] := by decide

theorem test_hyp_SensorSelection :
    dec (.snsVec (sensorVector true (sns .startLow 17998 0 noBytes true))) = some .snsStartLowCont ∧
    dec (.snsVec (sensorVector true (sns .startLow 17999 0 noBytes true))) = some .snsStartLowEnd ∧
    dec (.snsVec (sensorVector false (sns .bitMeasure 119 38 noBytes true))) = some .snsMeasureBit ∧
    dec (.snsVec (sensorVector false (sns .bitMeasure 39 39 noBytes true))) = some .snsMeasureLastOk ∧
    dec (.snsVec (sensorVector false (sns .bitMeasure 40 39 noBytes true))) = some .snsMeasureLastBad ∧
    (40 : Nat) = (sns .bitMeasure 39 39 noBytes true).snsCnt.toNat + 1 ∧
    noBytes = (shiftBit (decide (40 > 40)) (sns .bitMeasure 39 39 noBytes true)).payload := by decide

theorem test_hyp_TickRunsSelectedOperations : ∃ (s s1 s2 s3 s4 : State) (i1 i2 i3 i4 : Instr),
    (tickInput s).rst = false ∧ decode (busWordOf (tickInput s).bus) = .ok i1 ∧ exec i1 (takeInput s) = .next s1 ∧
    decode (.decVec (decoderVector s1)) = .ok i2 ∧ exec i2 s1 = .next s2 ∧
    decode (.capVec (captureVector (tickInput s).irIn s2)) = .ok i3 ∧ exec i3 s2 = .next s3 ∧
    decode (.snsVec (sensorVector (tickInput s).dqIn { s3 with prevIr := (tickInput s).irIn })) = .ok i4 ∧
    exec i4 { s3 with prevIr := (tickInput s).irIn } = .next s4 :=
  ⟨{ State.reset with inputs := [request 0x04#8 true 1#32] }, _, _, _, _, .wrCmdSnsStart 1#32, .decIdle, .capOff,
    .snsStartLowCont, rfl, rfl, rfl, rfl, rfl, rfl, rfl, rfl, rfl⟩

/-- Inputs inside and outside the contract. -/
def withIn (inp : TickInput) : State := { State.reset with inputs := [inp] }

theorem test_hyp_OnlyRequestsOutsideContractStop :
    (tickInput (withIn ⟨true, true, true, some ⟨0x01#8, false, 0#32, 4⟩⟩)).rst = true ∧
    (tickInput (withIn quiet)).bus = none ∧
    (tickInput (withIn (request 0xFC#8 false 0#32))).bus = some ⟨0xFC#8, false, 0#32, 4⟩ ∧
    (0xFC#8).toNat % 4 = 0 ∧
    (tickInput (withIn (request 0x01#8 false 0#32))).rst = false ∧ (0x01#8).toNat % 4 ≠ 0 ∧
    (tickInput (withIn ⟨false, true, true, some ⟨0x04#8, true, 1#32, 2⟩⟩)).bus = some ⟨0x04#8, true, 1#32, 2⟩ := by decide

theorem test_hyp_MisalignedAccessIsRefused : (2 ≠ 4 ∨ (0x04#8).toNat % 4 ≠ 0) ∧ (4 ≠ 4 ∨ (0x01#8).toNat % 4 ≠ 0) ∧
    (4 ≠ 4 ∨ (0xFF#8).toNat % 4 ≠ 0) := by decide

theorem test_hyp_ResetTickResetsEveryElement : (tickInput (withIn ⟨true, false, false, none⟩)).rst = true := by decide

theorem test_hyp_PulseMemoryStaysCanonical :
    Memory.wf 100 (bank1 (frame 0x00FF45BA#32)) = true ∧ ∃ t, step (pending 67 (frame 0x00FF45BA#32)) = .next t :=
  ⟨by decide, answers _ (by decide)⟩

/-- A state in a burst, in which an edge appends. -/
def inBurst : State := { cap 5 true true 1000 1600 edge with buf := [(0, 9000#16), (1, 4500#16), (5, 7#16)] }

theorem test_hyp_CaptureInvariantKept : CaptureInv inBurst ∧ ∃ t, step inBurst = .next t :=
  ⟨by constructor <;> decide, answers _ (by decide)⟩

theorem test_hyp_StoredSamplesStayInRange : CaptureInv inBurst ∧ SamplesInRange inBurst ∧ ∃ t, step inBurst = .next t :=
  ⟨by constructor <;> decide, by unfold SamplesInRange; decide, answers _ (by decide)⟩

/-- A state in a read: the bits 00111100 0 of [60, 0, …] received. -/
def inRead : State := { sns .bitMeasure 39 9 #v[60#8, 0#8, 0#8, 0#8, 0#8] false with snsCode := .noCode }

theorem test_hyp_SensorInvariantKept : SensorInv inRead ∧ ∃ t, step inRead = .next t :=
  ⟨by constructor <;> decide, answers _ (by decide)⟩

/-- A state with a DATA result. -/
def haveResult : State :=
  { State.reset with
    irResult := ⟨.data, .noReason, 0x00#8, 0x45#8, 0xFF#8⟩, irRaw := 0x00FF45BA#32, irLen := 67#16, inputs := [quiet] }

theorem test_hyp_ResultInvariantKept : ResultInv haveResult ∧ ∃ t, step haveResult = .next t :=
  ⟨by constructor <;> decide, answers _ (by decide)⟩

theorem test_hyp_OperationsWriteOnlyTheirUnit :
    (∃ t, exec .capDiscard inBurst = .next t) ∧ (∃ t, exec .decRepeat inBurst = .next t) ∧
    (∃ t, exec .snsRespLowOk inBurst = .next t) ∧ (∃ t, exec (.wrCtrl 7#32) inBurst = .next t) :=
  ⟨⟨_, rfl⟩, ⟨_, rfl⟩, ⟨_, rfl⟩, ⟨_, rfl⟩⟩

theorem test_hyp_BufWrittenOnlyAtActiveIndex : ∃ t, exec .capAppend inBurst = .next t ∧ 5 < inBurst.cfg.cap ∧
    bufRead t false 5 ≠ bufRead inBurst false 5 :=
  ⟨appended inBurst, execCapAppend_eq (by decide), by decide, by decide⟩

theorem test_hyp_ReadsHaveNoSideEffect : quiet.rst = false ∧ (0x00#8).toNat % 4 = 0 ∧ (0xFC#8).toNat % 4 = 0 := by decide

theorem test_hyp_SensorStart : State.reset.snsState = .idle ∧ inRead.snsState ≠ .idle := by decide

/-- An instance whose window is not the first page. -/
def elsewhere : Config := { Config.reference with basePage := 2 }

theorem test_hyp_WindowIsAtBase : (511 < elsewhere.base ∨ elsewhere.base + 256 ≤ 511) ∧
    (768 < elsewhere.base ∨ elsewhere.base + 256 ≤ 768) ∧
    requestAt elsewhere 511 4 false 0#32 = none ∧ requestAt elsewhere 768 4 false 0#32 = none ∧
    requestAt elsewhere 764 4 false 0#32 = some ⟨0xFC#8, false, 0#32, 4⟩ := by decide

theorem test_hyp_OverrunAndReadyFlags : (tickInput (pending 9 (fun _ => 0))).rst = false ∧
    ∃ t, step (pending 9 (fun _ => 0)) = .next t := ⟨by decide, answers _ (by decide)⟩

theorem test_hyp_SensorDoneFlag : (tickInput (sns .respLow 99 0 noBytes true)).rst = false ∧
    ∃ t, step (sns .respLow 99 0 noBytes true) = .next t := ⟨by decide, answers _ (by decide)⟩

theorem test_hyp_CommandErrors : (tickInput (withIn (request 0x04#8 true 2#32))).rst = false ∧
    (∃ t, step (withIn (request 0x04#8 true 2#32)) = .next t) ∧ inRead.snsState ≠ .idle :=
  ⟨by decide, answers _ (by decide), by decide⟩

theorem test_hyp_InterruptIsLevel : (∃ t, step (withIn quiet) = .next t) ∧
    ∃ t, step (withIn ⟨true, false, false, none⟩) = .next t := ⟨answers _ (by decide), answers _ (by decide)⟩

theorem test_hyp_AppendStoresThePulse :
    isPulse (cap 0 true true 1000 16000 edge) 15000 ∧ (cap 0 true true 1000 16000 edge).idx.toNat < 100 ∧
    isPulse (cap 99 true true 4294967000 264 edge) 560 ∧ (cap 99 true true 4294967000 264 edge).idx.toNat < 100 := by
  unfold isPulse; decide

theorem test_hyp_EdgeEqualsTimeoutThenBaseline :
    (cap 67 true true 5000 105000 edge).ctrl.irEn = true ∧ false ≠ (cap 67 true true 5000 105000 edge).prevIr ∧
    timeoutDue (cap 67 true true 5000 105000 edge) = true ∧
    ((cap 67 true true 5000 105000 edge).baseValid = false → (cap 67 true true 5000 105000 edge).idx = 0#16) ∧
    timeoutDue (cap 0 false true 5000 105000 edge) = true ∧
    ((cap 0 false true 5000 105000 edge).baseValid = false → (cap 0 false true 5000 105000 edge).idx = 0#16) := by decide

theorem test_hyp_InputSampledEveryTick : (tickInput (withIn edge)).rst = false ∧ ∃ t, step (withIn edge) = .next t :=
  ⟨by decide, answers _ (by decide)⟩

theorem test_hyp_PulseCountsElapsedTicks :
    (∃ t, step inBurst = .next t ∧ t.ctrl.irEn = true) ∧ (tickInput inBurst).irIn ≠ inBurst.prevIr ∧
    CaptureInv (cap 5 true true 1000 1300 quiet) ∧
    (tickInput (cap 5 true true 1000 1300 quiet)).irIn = (cap 5 true true 1000 1300 quiet).prevIr ∧
    after (step (cap 5 true true 1000 1300 quiet)) (·.toArmed) = some true :=
  ⟨⟨_, rfl, rfl⟩, by decide, by constructor <;> decide, by decide, by decide⟩

/-- Sample k of the decode bank. -/
def sample (s : State) (k : Nat) : Nat := (bufRead s (!s.active) k).toNat

set_option maxRecDepth 20000 in
theorem test_hyp_WellFormedFrameDecodesToItsBytes :
    (0x04FB45BA#32 : Word) = 0x04#8 ++ ~~~0x04#8 ++ 0x45#8 ++ ~~~0x45#8 ∧
    (6300 ≤ sample (pending 67 (frame 0x04FB45BA#32)) 0 ∧ sample (pending 67 (frame 0x04FB45BA#32)) 0 ≤ 11700) ∧
    (3150 ≤ sample (pending 67 (frame 0x04FB45BA#32)) 1 ∧ sample (pending 67 (frame 0x04FB45BA#32)) 1 ≤ 5850) ∧
    (∀ i, i < 32 → 392 ≤ sample (pending 67 (frame 0x04FB45BA#32)) (2 * i + 2) ∧
      sample (pending 67 (frame 0x04FB45BA#32)) (2 * i + 2) ≤ 728) ∧
    (∀ i, i < 32 → if (0x04FB45BA#32 : Word).getLsbD (31 - i) = true then
      1183 ≤ sample (pending 67 (frame 0x04FB45BA#32)) (2 * i + 3) ∧
        sample (pending 67 (frame 0x04FB45BA#32)) (2 * i + 3) ≤ 2197
      else 392 ≤ sample (pending 67 (frame 0x04FB45BA#32)) (2 * i + 3) ∧
        sample (pending 67 (frame 0x04FB45BA#32)) (2 * i + 3) ≤ 728) := by decide

/-- Whether pair i passes, on samples given as numbers. -/
def okPair (x : Nat → Nat) (i : Nat) : Bool :=
  decide ((392 ≤ x (2 * i + 2) ∧ x (2 * i + 2) ≤ 728) ∧
    ((392 ≤ x (2 * i + 3) ∧ x (2 * i + 3) ≤ 728) ∨ (1183 ≤ x (2 * i + 3) ∧ x (2 * i + 3) ≤ 2197)))

/-- The word that the spaces of some samples give. -/
def spacesGive (x : Nat → Nat) (w : Word) : Prop := ∀ i, i < 32 → (w.getLsbD (31 - i) = true ↔ 1183 ≤ x (2 * i + 3))

set_option maxRecDepth 20000 in
/-- The samples of a frame, as the bank holds them. -/
theorem test_hyp_FirstFailingCheckDecidesReason_samples :
    (∀ k, k < 66 → frame 0x00004545#32 k = sample (pending 67 (frame 0x00004545#32)) k) ∧
    spacesGive (frame 0x00004545#32) 0x00004545#32 ∧ spacesGive (frame 0x00FF45BB#32) 0x00FF45BB#32 ∧
    spacesGive (replaced 0 6299) 0x00FF45BA#32 ∧ spacesGive (replaced 65 1182) 0x00FF45BA#32 := by
  unfold spacesGive; decide

/-- A witness for each clause, at the boundary of a window. -/
theorem test_hyp_FirstFailingCheckDecidesReason_clauses :
    ¬ (6300 ≤ replaced 0 6299 0 ∧ replaced 0 6299 0 ≤ 11700) ∧
    (6300 ≤ replaced 1 5851 0 ∧ replaced 1 5851 0 ≤ 11700) ∧ ¬ (3150 ≤ replaced 1 5851 1 ∧ replaced 1 5851 1 ≤ 5850) ∧
    ¬ (392 ≤ replaced 2 391 2 ∧ replaced 2 391 2 ≤ 728) ∧
    (∀ j, j < 31 → okPair (replaced 64 729) j = true) ∧ ¬ (392 ≤ replaced 64 729 64 ∧ replaced 64 729 64 ≤ 728) ∧
    (∀ j, j < 31 → okPair (replaced 65 1182) j = true) ∧ okPair (replaced 65 1182) 31 = false ∧
    (392 ≤ replaced 65 1182 64 ∧ replaced 65 1182 64 ≤ 728) ∧
    (∀ i, i < 32 → okPair (frame 0x00004545#32) i = true) ∧
    (0x00004545#32 : Word).extractLsb' 24 8 ^^^ (0x00004545#32 : Word).extractLsb' 16 8 ≠ 0xFF#8 ∧
    (∀ i, i < 32 → okPair (frame 0x00FF45BB#32) i = true) ∧
    (0x00FF45BB#32 : Word).extractLsb' 24 8 ^^^ (0x00FF45BB#32 : Word).extractLsb' 16 8 = 0xFF#8 ∧
    (0x00FF45BB#32 : Word).extractLsb' 8 8 ^^^ (0x00FF45BB#32 : Word).extractLsb' 0 8 ≠ 0xFF#8 := by decide

set_option maxRecDepth 20000 in
/-- A memory that differs from the decode bank's at index 66 only (VD22). -/
theorem test_hyp_NecReadsOnlyTheFirst66Samples : ∀ k, k < 66 →
    bufRead { pending 67 (frame 0x00FF45BA#32) with buf := bank1 (replaced 66 15000), bufDraw := 9 } true k =
      bufRead (pending 67 (frame 0x00FF45BA#32)) true k := by decide

/-- The second clause: a burst of 51 samples, the rest of the frame stale, decodes to DATA. -/
theorem test_hyp_NecReadsStaleSamples : after (exec .decNec (pending 51 (frame 0x00FF45BA#32))) (fun t => t.irResult.kind) =
    some .data := by decide

theorem test_hyp_PendingBurstIsPublishedInTheNextTick :
    [0, 1, 9, 10, 50, 51].map (fun n => (inputInContract (tickInput (pending n (fun _ => 0))),
      (pending n (fun _ => 0)).decPend, (pending n (fun _ => 0)).decLen.toNat)) =
    [0, 1, 9, 10, 50, 51].map (fun n => (true, true, n)) ∧ ∃ t, step (pending 51 (fun _ => 0)) = .next t :=
  ⟨by decide, answers _ (by decide)⟩

/-- An instance with one mapped command. -/
def oneButton : Config := { Config.reference with buttons := [(0x45#8, 0x02#8)], buttons_mapped := by decide }

theorem test_hyp_ButtonMapGivesTableEntry : (∃ e ∈ oneButton.buttons, e.1 = 0x45#8) ∧
    (∀ e ∈ oneButton.buttons, e.1 ≠ 0x46#8) ∧ (∀ e ∈ Config.reference.buttons, e.1 ≠ 0x45#8) :=
  ⟨⟨(0x45#8, 0x02#8), by decide, rfl⟩, by simp [oneButton], by simp [Config.reference]⟩

theorem test_hyp_MeasuredBitIsShiftedIn :
    (sns .bitMeasure 39 39 noBytes false).snsNbits.toNat ≤ 39 ∧
    0 = (if (sns .bitMeasure 39 39 noBytes false).snsCnt.toNat + 1 > 40 then 1 else 0) ∧
    1 = (if (sns .bitMeasure 40 0 noBytes false).snsCnt.toNat + 1 > 40 then 1 else 0) := by decide

theorem test_hyp_LineDrivenOnlyInStartLow :
    (∃ t, step (withIn (request 0x04#8 true 1#32)) = .next t) ∧
    State.reset.snsState = .idle ∧ isSnsStart (tickInput (withIn (request 0x04#8 true 1#32))).bus = true ∧
    (sns .startLow 17999 0 noBytes true).snsState = .startLow ∧ (sns .release 0 0 noBytes true).snsState = .release :=
  ⟨answers _ (by decide), by decide, by decide, by decide, by decide⟩

theorem test_hyp_SingleBitFlipBreaksChecksum :
    (85#8).toNat = ((60#8).toNat + (0#8).toNat + (25#8).toNat + (0#8).toNat) % 256 ∧
    (∀ (i : Nat) (_ : i < 5), (#v[60#8, 0#8, 25#8, 128#8, 85#8])[i] =
      if i = 3 then (#v[60#8, 0#8, 25#8, 0#8, 85#8])[i] ^^^ (1#8 <<< 7) else (#v[60#8, 0#8, 25#8, 0#8, 85#8])[i]) := by decide

theorem test_hyp_SensorDataStableWhileIdle : (tickInput (withIn quiet)).rst = false ∧
    (withIn quiet).snsState = .idle ∧ isSnsStart (tickInput (withIn quiet)).bus = false ∧ ∃ t, step (withIn quiet) = .next t :=
  ⟨by decide, by decide, by decide, answers _ (by decide)⟩

theorem test_hyp_ReadCannotBeCancelled : inRead.snsState ≠ .idle ∧ quiet.rst = false ∧
    (∃ t, tick quiet inRead = .next t) ∧
    ∃ u, tick { quiet with bus := some ⟨0x04#8, true, 1#32, 4⟩ } inRead = .next u :=
  ⟨by decide, by decide, ⟨_, rfl⟩, ⟨_, rfl⟩⟩

/-- The start of a read, with the inputs of the ticks after it (P5: no sensor fitted). -/
def startedRead (n : Nat) : State := { State.reset with inputs := request 0x04#8 true 1#32 :: List.replicate n quiet }

theorem test_hyp_StartConditionTiming (n : Nat) (h : n ≤ 18000 + (startedRead 18040).cfg.tRel) :
    (startedRead 18040).snsState = .idle ∧ isSnsStart (request 0x04#8 true 1#32).bus = true ∧
    (∀ x ∈ (startedRead 18040).inputs, x.rst = false ∧ requestInContract x.bus = true) ∧
    n ≤ (startedRead 18040).inputs.length := by
  refine ⟨rfl, by decide, ?_, ?_⟩
  · intro x hx
    rcases List.mem_cons.1 hx with rfl | hx
    · decide
    · rw [List.eq_of_mem_replicate hx]; decide
  · have : n ≤ 18040 := h
    simp only [startedRead, List.length_cons, List.length_replicate]; omega

theorem test_hyp_EveryReadFinishesInTime : (startedRead 30000).snsState = .idle ∧
    (∀ x ∈ (startedRead 30000).inputs, x.rst = false ∧ requestInContract x.bus = true) ∧
    18000 + (startedRead 30000).cfg.tRel + 7900 ≤ (startedRead 30000).inputs.length := by
  refine ⟨rfl, ?_, ?_⟩
  · intro x hx
    rcases List.mem_cons.1 hx with rfl | hx
    · decide
    · rw [List.eq_of_mem_replicate hx]; decide
  · show 18000 + 40 + 7900 ≤ _
    simp only [startedRead, List.length_cons, List.length_replicate]; omega

theorem test_hyp_IrPathIgnoresSensorPath : SameIr inBurst { inBurst with snsState := .bitHigh, snsNbits := 7#6 } ∧
    ({ inBurst with snsState := .bitHigh, snsNbits := 7#6 } : State).draws = inBurst.draws ∧
    (∃ t, tick edge inBurst = .next t) ∧
    ∃ t, tick { edge with dqIn := false } { inBurst with snsState := .bitHigh, snsNbits := 7#6 } = .next t :=
  ⟨by constructor <;> rfl, rfl, ⟨_, rfl⟩, ⟨_, rfl⟩⟩

theorem test_hyp_SensorPathIgnoresIrPath : SameSensor inRead { inRead with idx := 7#16, decPend := true } ∧
    (∃ t, tick quiet inRead = .next t) ∧
    ∃ t, tick { quiet with irIn := false } { inRead with idx := 7#16, decPend := true } = .next t :=
  ⟨by constructor <;> rfl, ⟨_, rfl⟩, ⟨_, rfl⟩⟩

theorem test_hyp_QuietTickChangesOnlyNowAndPrevIr : CaptureInv (withIn ⟨false, false, false, none⟩) ∧
    (withIn ⟨false, false, false, none⟩).ctrl.irEn = false ∧ (withIn ⟨false, false, false, none⟩).snsState = .idle ∧
    (withIn ⟨false, false, false, none⟩).decPend = false :=
  ⟨by constructor <;> decide, by decide, by decide, by decide⟩

end Sys2Proof.Tests
end

/-! Proofs of 00_scope.md: what a tick does, from what its four operations do (R10). -/

namespace Sys2Proof.Machine

/-- A unit whose word decodes to an operation performs that operation. -/
theorem runWord_of_decode {u : UnitWord} {i : Instr} (h : decode u = .ok i) (s : State) : runWord u s = exec i s := by
  simp only [runWord, h]

/-- The capture phase samples ir_in after its operation (40_capture.md R120). -/
theorem capturePhase_of_exec {irIn : Bool} {s t : State} {i : Instr}
    (hd : decode (.capVec (captureVector irIn s)) = .ok i) (he : exec i s = .next t) :
    capturePhase irIn s = .next (sampleIr irIn t) :=
  andThen_next.2 ⟨t, (runWord_of_decode hd s).trans he, rfl⟩

/-- The converse of `tick_phases`, over the phases themselves: when each answers a next state, so does the tick. -/
theorem tick_of_phases {inp : TickInput} {s s1 s2 s3 s4 : State} (hr : inp.rst = false)
    (h1 : busPhase inp.bus s = .next s1) (h2 : decoderPhase s1 = .next s2)
    (h3 : capturePhase inp.irIn s2 = .next s3) (h4 : sensorPhase inp.dqIn s3 = .next s4) :
    tick inp s = .next (endPhase s4) := by
  unfold tick
  rw [if_neg (by simp [hr])]
  exact andThen_next.2 ⟨s1, h1, andThen_next.2 ⟨s2, h2, andThen_next.2 ⟨s3, h3, andThen_next.2 ⟨s4, h4, rfl⟩⟩⟩⟩

/-- Settles O9: each operation named is the one its phase performs (`runWord_of_decode`, `capturePhase_of_exec`), and the
tick chains the phases (`tick_of_phases`); the state claimed is that of the end phase. -/
theorem tickRunsSelectedOperations : Obligations.TickRunsSelectedOperations := by
  intro s s1 s2 s3 s4 i1 i2 i3 i4 hr d1 e1 d2 e2 d3 e3 d4 e4
  have bus : busPhase (tickInput s).bus (takeInput s) = .next s1 := (runWord_of_decode d1 _).trans e1
  have decoder : decoderPhase s1 = .next s2 := (runWord_of_decode d2 _).trans e2
  have sensor : sensorPhase (tickInput s).dqIn (sampleIr (tickInput s).irIn s3) = .next s4 :=
    (runWord_of_decode d4 _).trans e4
  exact tick_of_phases hr bus decoder (capturePhase_of_exec d3 e3) sensor

end Sys2Proof.Machine

/-! Proofs of 10_state.md: which unit writes which element, the invariants that every tick keeps, and the state after reset
(R24 to R43). -/

namespace Sys2Proof.Machine

/-! ## What a tick does to the capture unit -/

/-- The states agree on the capture unit's elements, but for PREV_IR and DEC_PEND, which other phases write. -/
structure SameCapture (s t : State) : Prop where
  cfg       : t.cfg = s.cfg
  now       : t.now = s.now
  last      : t.last = s.last
  baseValid : t.baseValid = s.baseValid
  toArmed   : t.toArmed = s.toArmed
  idx       : t.idx = s.idx
  active    : t.active = s.active
  decLen    : t.decLen = s.decLen
  buf       : t.buf = s.buf

theorem SameCapture.trans {s t u : State} (h : SameCapture s t) (k : SameCapture t u) : SameCapture s u where
  cfg := k.cfg.trans h.cfg
  now := k.now.trans h.now
  last := k.last.trans h.last
  baseValid := k.baseValid.trans h.baseValid
  toArmed := k.toArmed.trans h.toArmed
  idx := k.idx.trans h.idx
  active := k.active.trans h.active
  decLen := k.decLen.trans h.decLen
  buf := k.buf.trans h.buf

theorem SameCapture.pulse {s t : State} (h : SameCapture s t) : pulse t = pulse s := pulse_congr h.now h.last h.cfg

theorem sameCapture_takeInput (s : State) : SameCapture s (takeInput s) := by constructor <;> simp

theorem BusStep.sameCapture {s t : State} {b : Option BusRequest} (h : BusStep s b t) : SameCapture s t := by
  rw [h.frame]; constructor <;> rfl

theorem DecoderStep.sameCapture {s t : State} {i : Instr} (h : DecoderStep s i t) : SameCapture s t := by
  rw [h.frame]; constructor <;> rfl

theorem SensorStep.sameCapture {d irIn : Bool} {s t : State} {i : Instr} (h : SensorStep d (sampleIr irIn s) i t) :
    SameCapture s t := by
  rw [h.frame]; constructor <;> rfl

/-- What a tick that is not a reset tick does to the capture unit: its phase starts from the elements as they were, with no
decode pending, and what it leaves stays until the end phase. -/
theorem step_capture {s t : State} (hr : (tickInput s).rst = false) (h : step s = .next t) :
    ∃ s2 i u v, SameCapture s s2 ∧ s2.prevIr = s.prevIr ∧ s2.decPend = false ∧
      CaptureStep (tickInput s).irIn s2 i u ∧
      SameCapture u v ∧ v.ctrl = u.ctrl ∧ v.decPend = u.decPend ∧ t = endPhase v := by
  rcases tick_next h with ⟨hrst, _⟩ | ⟨_, _, s1, s2, u, v, _, i, _, hb, hd, hc, hs, rfl⟩
  · rw [hr] at hrst; cases hrst
  · have hprev : s2.prevIr = s.prevIr := by rw [hd.frame, hb.frame]; simp
    have hpend : s2.decPend = false := by rw [hd.frame]
    have hctrl : v.ctrl = u.ctrl := by rw [hs.frame]; rfl
    have hkept : v.decPend = u.decPend := by rw [hs.frame]; rfl
    exact ⟨s2, i, u, v, ((sameCapture_takeInput s).trans hb.sameCapture).trans hd.sameCapture, hprev, hpend, hc,
      hs.sameCapture, hctrl, hkept, rfl⟩

theorem CaptureStep.cfg {irIn : Bool} {s t : State} {i : Instr} (h : CaptureStep irIn s i t) : t.cfg = s.cfg := by
  rw [h.frame]

theorem CaptureStep.ctrl {irIn : Bool} {s t : State} {i : Instr} (h : CaptureStep irIn s i t) : t.ctrl = s.ctrl := by
  rw [h.frame]

theorem CaptureStep.now {irIn : Bool} {s t : State} {i : Instr} (h : CaptureStep irIn s i t) : t.now = s.now := by
  rw [h.frame]

/-- A reset tick leaves a state after reset with the same parameters. -/
theorem step_reset {s t : State} (hr : (tickInput s).rst = true) (h : step s = .next t) :
    t = State.afterReset s.cfg (takeInput s).inputs (takeInput s).draws := by
  rcases tick_next h with ⟨_, rfl⟩ | ⟨hrst, _⟩
  · simp [resetTick]
  · rw [hr] at hrst; cases hrst

/-! ## The canonical form of BUF -/

/-- Only CAP_APPEND writes BUF, at an index below CAP, whose key is canonical. -/
theorem CaptureStep.buf_wf {irIn : Bool} {s t : State} {i : Instr} (h : CaptureStep irIn s i t)
    (hw : Memory.wf s.cfg.cap s.buf = true) : Memory.wf s.cfg.cap t.buf = true := by
  cases h
  case append hi =>
    have hx : s.idx.toNat < 65536 := s.idx.isLt
    exact memInsert_wf hw (by rwa [bufKey_mod _ _ hx]) (bufKey_lt _ _ hx)
  all_goals exact hw

/-- Settles O15: a reset tick empties the list; in any other tick only the capture phase writes it. -/
theorem pulseMemoryStaysCanonical : Obligations.PulseMemoryStaysCanonical := by
  intro s t hw h
  cases hr : (tickInput s).rst
  case true => rw [step_reset hr h]; exact ⟨rfl, rfl⟩
  case false =>
    obtain ⟨s2, i, u, v, hs, _, _, hc, hv, _, _, rfl⟩ := step_capture hr h
    rw [← hs.cfg, ← hs.buf] at hw
    refine ⟨hv.cfg.trans (hc.cfg.trans hs.cfg), ?_⟩
    rw [endPhase_cfg, endPhase_buf, hv.cfg, hc.cfg, hv.buf]
    exact hc.buf_wf hw

/-! ## The capture invariant (R43) -/

/-- The part of the capture invariant that holds between the phases too, with the range of an armed timer: `1` to `100000`
between two ticks, `0` to `99999` from the capture phase to the end phase, which counts NOW on. -/
structure CaptureRange (lo hi : Nat) (s : State) : Prop where
  idx_le_cap : s.idx.toNat ≤ s.cfg.cap
  baseline   : s.baseValid = true → s.toArmed = true
  samples    : 1 ≤ s.idx.toNat → s.baseValid = true
  armed      : s.toArmed = true → lo ≤ pulse s ∧ pulse s ≤ hi
  counters   : s.now < 2 ^ s.cfg.w ∧ s.last < 2 ^ s.cfg.w
  length     : s.decLen.toNat ≤ s.cfg.cap

theorem CaptureRange.congr {lo hi : Nat} {s t : State} (k : SameCapture s t) (h : CaptureRange lo hi s) :
    CaptureRange lo hi t := by
  obtain ⟨h1, h2, h3, h4, h5, h6⟩ := h
  constructor <;> simpa only [k.cfg, k.now, k.last, k.baseValid, k.toArmed, k.idx, k.decLen, k.pulse]

theorem CaptureInv.range {s : State} (h : CaptureInv s) : CaptureRange 1 100000 s :=
  ⟨h.idx_le_cap, fun hb => (h.baseline hb).1, h.samples, h.armed, h.counters, h.length⟩

theorem CaptureRange.inv {s : State} (h : CaptureRange 1 100000 s)
    (disabled : s.ctrl.irEn = false → s.idx = 0#16 ∧ s.baseValid = false ∧ s.toArmed = false)
    (pending : s.decPend = true → s.idx = 0#16 ∧ 1 ≤ s.decLen.toNat) : CaptureInv s where
  idx_le_cap := h.idx_le_cap
  disabled := disabled
  baseline hb := ⟨h.baseline hb, (h.armed (h.baseline hb)).2⟩
  pending := pending
  samples := h.samples
  armed := h.armed
  counters := h.counters
  length := h.length

/-- Right after an edge's operation, before NOW counts on, the pulse is 0. -/
theorem pulse_zero_of_last {s : State} (h : s.last = s.now) : pulse s = 0 :=
  pulse_eq (by simp [h])

/-- The end phase counts NOW on, and the pulse of an armed timer with it. -/
theorem CaptureRange.after_endPhase {s : State} (h : CaptureRange 0 99999 s) : CaptureRange 1 100000 (endPhase s) where
  idx_le_cap := h.idx_le_cap
  baseline := h.baseline
  samples := h.samples
  armed ha := by
    have hp := (h.armed ha).2
    have hn : pulse (endPhase s) = pulse s + 1 := pulse_after_tick (by omega) rfl rfl rfl
    omega
  counters := ⟨Nat.mod_lt _ (Nat.two_pow_pos _), h.counters.2⟩
  length := h.length

/-- With an edge and capture enabled, LAST takes NOW (R123). -/
theorem CaptureStep.last_of_edge {irIn : Bool} {s t : State} {i : Instr} (h : CaptureStep irIn s i t)
    (hen : s.ctrl.irEn = true) (he : irIn ≠ s.prevIr) : t.last = s.now := by
  cases h
  case off hoff => rw [hen] at hoff; cases hoff
  case quiet | timeoutDeliver | timeoutEmpty => exact absurd ‹irIn = s.prevIr› he
  all_goals rfl

/-- Without an edge the timer is armed afterwards only when the operation was CAP_QUIET. -/
theorem CaptureStep.quiet_of_armed {irIn : Bool} {s t : State} {i : Instr} (h : CaptureStep irIn s i t)
    (he : irIn = s.prevIr) (ha : t.toArmed = true) : t = s ∧ timeoutDue s = false := by
  cases h
  case quiet hd => exact ⟨rfl, hd⟩
  case off | timeoutDeliver | timeoutEmpty => cases ha
  all_goals exact absurd he ‹irIn ≠ s.prevIr›

theorem timeoutDue_iff {s : State} : timeoutDue s = true ↔ s.toArmed = true ∧ 100000 ≤ pulse s := by
  rw [timeoutDue, Bool.and_eq_true, decide_eq_true_eq, frameTimeoutUs]

/-- An armed timer after the capture phase has counted fewer ticks than the timeout: CAP_QUIET runs only before it is due,
and an edge's operation restarts it. -/
theorem CaptureStep.pulse_lt_timeout {irIn : Bool} {s t : State} {i : Instr} (h : CaptureStep irIn s i t)
    (ha : t.toArmed = true) : pulse t ≤ 99999 := by
  by_cases he : irIn = s.prevIr
  · obtain ⟨rfl, hd⟩ := h.quiet_of_armed he ha
    have : ¬ 100000 ≤ pulse t := fun hp => absurd (timeoutDue_iff.2 ⟨ha, hp⟩) (by simp [hd])
    omega
  · by_cases hen : s.ctrl.irEn = true
    · rw [pulse_zero_of_last ((h.last_of_edge hen he).trans h.now.symm)]
      omega
    · cases h
      case off => cases ha
      all_goals exact absurd ‹s.ctrl.irEn = true› hen

/-- IDX stays in the bank: CAP_APPEND needs room, every other operation keeps IDX or clears it. -/
theorem CaptureStep.idx_le_cap {irIn : Bool} {s t : State} {i : Instr} (h : CaptureStep irIn s i t)
    (hi : s.idx.toNat ≤ s.cfg.cap) : t.idx.toNat ≤ s.cfg.cap := by
  cases h
  case append hroom =>
    have hcap := s.cfg.cap_range
    have : (s.idx + 1#16).toNat = s.idx.toNat + 1 := by
      rw [BitVec.toNat_add]; exact Nat.mod_eq_of_lt (by simp; omega)
    show (s.idx + 1#16).toNat ≤ s.cfg.cap
    omega
  case quiet | baseline => exact hi
  all_goals exact Nat.zero_le _

/-- The capture phase takes the range between two ticks to the range before the end phase. -/
theorem CaptureStep.range {irIn : Bool} {s t : State} {i : Instr} (h : CaptureStep irIn s i t)
    (hs : CaptureRange 1 100000 s) : CaptureRange 0 99999 t where
  idx_le_cap := by rw [h.cfg]; exact h.idx_le_cap hs.idx_le_cap
  baseline := by
    cases h
    case quiet => exact hs.baseline
    case append => exact fun _ => rfl
    all_goals simp
  samples := by
    cases h
    case quiet => exact hs.samples
    case append hb _ _ => exact fun _ => hb
    all_goals simp
  armed ha := ⟨Nat.zero_le _, h.pulse_lt_timeout ha⟩
  counters := by
    cases h
    case off | quiet | timeoutDeliver | timeoutEmpty => exact hs.counters
    all_goals exact ⟨hs.counters.1, hs.counters.1⟩
  length := by
    cases h
    case timeoutDeliver | boundaryDeliver => exact hs.idx_le_cap
    all_goals exact hs.length

/-- CAP_OFF clears the unit, so that R43 item 2 holds after every capture phase. -/
theorem CaptureStep.disabled {irIn : Bool} {s t : State} {i : Instr} (h : CaptureStep irIn s i t)
    (hen : t.ctrl.irEn = false) : t.idx = 0#16 ∧ t.baseValid = false ∧ t.toArmed = false := by
  have hen' : s.ctrl.irEn = false := by rw [← h.ctrl]; exact hen
  cases h
  case off => exact ⟨rfl, rfl, rfl⟩
  all_goals exact absurd (hen'.symm.trans ‹s.ctrl.irEn = true›) (by decide)

/-- Where no decode was pending before the capture phase, one that is pending after it comes from a swap (R122). -/
theorem CaptureStep.pending {irIn : Bool} {s t : State} {i : Instr} (h : CaptureStep irIn s i t)
    (hs : s.decPend = false) (hp : t.decPend = true) :
    t.active = !s.active ∧ t.idx = 0#16 ∧ 1 ≤ t.decLen.toNat := by
  cases h
  case timeoutDeliver hi | boundaryDeliver hi => exact ⟨rfl, rfl, hi⟩
  all_goals exact absurd (hs.symm.trans hp) (by decide)

theorem captureInv_afterReset (cfg : Config) (inputs : List TickInput) (draws : Nat) :
    CaptureInv (State.afterReset cfg inputs draws) := by
  constructor <;> simp [State.afterReset]

/-- Settles O16: the range of the counters passes through the phases (`CaptureRange`), the capture phase restores what a
write of CTRL may have broken, and a decode that is pending afterwards is this tick's swap. -/
theorem captureInvariantKept : Obligations.CaptureInvariantKept := by
  intro s t hs h
  cases hr : (tickInput s).rst
  case true =>
    rw [step_reset hr h]
    exact ⟨captureInv_afterReset .., fun hp => nomatch hp⟩
  case false =>
    obtain ⟨s2, i, u, v, hs2, _, hpend, hc, hv, hctrl, hkept, rfl⟩ := step_capture hr h
    have hrange : CaptureRange 1 100000 (endPhase v) := ((hc.range (hs.range.congr hs2)).congr hv).after_endPhase
    have hswap (hp : v.decPend = true) : v.active = !s.active ∧ v.idx = 0#16 ∧ 1 ≤ v.decLen.toNat := by
      rw [hv.active, hv.idx, hv.decLen, ← hs2.active]
      exact hc.pending hpend (hkept ▸ hp)
    refine ⟨hrange.inv (fun hen => ?_) fun hp => (hswap hp).2, fun hp => ⟨(hswap hp).1, (hswap hp).2.1⟩⟩
    rw [endPhase_idx, endPhase_baseValid, endPhase_toArmed, hv.idx, hv.baseValid, hv.toArmed]
    exact hc.disabled (hctrl ▸ hen)

/-- Settles O39: an edge's operation sets LAST to NOW; without an edge an armed timer says CAP_QUIET, which leaves LAST and a
pulse within the timeout. -/
theorem pulseCountsElapsedTicks : Obligations.PulseCountsElapsedTicks := by
  intro s t hr h
  obtain ⟨s2, i, u, v, hs2, hprev, _, hc, hv, hctrl, _, rfl⟩ := step_capture hr h
  have hnow : v.now = s.now := hv.now.trans (hc.now.trans hs2.now)
  have hcfg : v.cfg = s.cfg := hv.cfg.trans (hc.cfg.trans hs2.cfg)
  have hcount : (endPhase v).now = (s.now + 1) % 2 ^ s.cfg.w := by rw [endPhase_now, hnow, hcfg]
  refine ⟨hcount, fun hen he => ?_, fun hs he ha => ?_⟩
  · have hen2 : s2.ctrl.irEn = true := by rw [← hc.ctrl, ← hctrl]; exact hen
    have hlast : u.last = s2.now := hc.last_of_edge hen2 (hprev ▸ he)
    exact pulse_after_edge s.now (by rw [hcount, endPhase_cfg, hcfg]) ((hv.last.trans hlast).trans hs2.now)
  · obtain ⟨rfl, _⟩ := hc.quiet_of_armed (he.trans hprev.symm) (hv.toArmed ▸ ha)
    have harmed : s.toArmed = true := ((hs2.trans hv).toArmed.symm.trans ha)
    exact pulse_after_tick (hs.armed harmed).2 hcount (hs2.trans hv).last hcfg

/-! ## Who writes what -/

/-- What an operation can write, by its unit (10_state.md R24 to R41). Two operations have a case of their own: CAP_APPEND,
which alone writes BUF, and WR_CMD_SNS_START, the one bus operation that touches the reader. -/
def OperationFrame (i : Instr) (s t : State) : Prop :=
  match i.unitOf with
  | .bus => t = { s with ctrl := t.ctrl, status := t.status, rdata := t.rdata } ∨
      (∃ wdata, i = .wrCmdSnsStart wdata) ∧ t = startSensor (noData s)
  | .decoder => t = { s with
      decPend := t.decPend, irResult := t.irResult, irRaw := t.irRaw, irLen := t.irLen
      status := { s.status with irRdy := t.status.irRdy, irOvr := t.status.irOvr } }
  | .capture => t = { s with
      last := t.last, baseValid := t.baseValid, toArmed := t.toArmed, idx := t.idx, active := t.active
      decLen := t.decLen, decPend := t.decPend } ∨
      i = .capAppend ∧ t = appended s
  | .sensor => t = { s with
      dqOe := t.dqOe, snsCode := t.snsCode, snsNbits := t.snsNbits, snsState := t.snsState, payload := t.payload
      snsCnt := t.snsCnt, status := { s.status with snsDone := t.status.snsDone } }

theorem exec_frame {i : Instr} {s t : State} (h : exec i s = .next t) : OperationFrame i s t := by
  cases i
  case capAppend =>
    by_cases hroom : s.idx.toNat < s.cfg.cap
    · exact .inr ⟨rfl, (next_inj.1 ((execCapAppend_eq hroom).symm.trans h)).symm⟩
    · cases (execCapAppend_fault hroom).symm.trans h
  case wrCmdSnsStart wdata => exact .inr ⟨⟨wdata, rfl⟩, (next_inj.1 h).symm⟩
  case busMisaligned => cases h
  case capOff | capQuiet | capTimeoutDeliver | capTimeoutEmpty | capBaseline | capBoundaryDeliver | capBoundaryEmpty |
      capDiscard =>
    obtain rfl := next_inj.1 h; exact .inl rfl
  case busIdle | rdCtrl | rdCmd | rdStatus | rdIrResult | rdIrRaw | rdIrLen | rdSnsResult | rdSnsData0 | rdSnsData1 | rdRsvd |
      wrCtrl | wrCmdNop | wrCmdRsvd | wrStatus | wrRo | wrRsvd =>
    obtain rfl := next_inj.1 h; exact .inl rfl
  all_goals obtain rfl := next_inj.1 h; exact rfl

/-- Settles O20: the frame of the operation's unit, and of CAP_APPEND and SNS_START. -/
theorem operationsWriteOnlyTheirUnit : Obligations.OperationsWriteOnlyTheirUnit := by
  intro i s t h
  have hf := exec_frame h
  unfold OperationFrame at hf
  cases hu : i.unitOf <;> simp only [hu] at hf
  case bus =>
    rcases hf with hf | ⟨⟨wdata, rfl⟩, rfl⟩
    · rw [hf]; simp
    · simp
  case decoder => rw [hf]; simp
  case capture =>
    rcases hf with hf | ⟨_, rfl⟩
    · rw [hf]; simp
    · simp [appended]
  case sensor => rw [hf]; simp

/-! ## Who writes BUF -/

theorem bufRead_congr {s t : State} (hb : t.buf = s.buf) (hd : t.bufDraw = s.bufDraw) (bank : Bool) (j : Nat) :
    bufRead t bank j = bufRead s bank j := by
  rw [bufRead, hb, hd, bufRead]

/-- CAP_APPEND leaves every entry but `BUF[ACTIVE][IDX]` as it was (R131). -/
theorem bufRead_appended_other {s : State} {bank : Bool} {j : Nat} (hj : j < 65536)
    (hne : ¬ (bank = s.active ∧ j = s.idx.toNat)) :
    bufRead (appended s) bank j = bufRead s bank j := by
  have hkey : bufKey bank j ≠ bufKey s.active s.idx.toNat := mt (bufKey_inj hj s.idx.isLt).1 hne
  exact (memLookup_memInsert ..).trans (if_neg hkey)

/-- An operation leaves BUF as it is, but for CAP_APPEND. -/
theorem exec_buf {i : Instr} {s t : State} (h : exec i s = .next t) :
    t.buf = s.buf ∨ i = .capAppend ∧ t = appended s := by
  by_cases hu : i.unitOf = .capture
  · have hf := exec_frame h
    simp only [OperationFrame, hu] at hf
    exact hf.imp_left fun hf => by rw [hf]
  · obtain ⟨_, _, _, _, _, _, _, _, _, hcapture, _⟩ := operationsWriteOnlyTheirUnit i s t h
    exact .inl (hcapture hu).1

/-- Settles O21: no other operation writes BUF's list (`exec_buf`), and CAP_APPEND writes one key of it. -/
theorem bufWrittenOnlyAtActiveIndex : Obligations.BufWrittenOnlyAtActiveIndex := by
  intro i s t bank j h hj hread
  obtain ⟨_, _, _, hdraw, _⟩ := operationsWriteOnlyTheirUnit i s t h
  rcases exec_buf h with hbuf | ⟨rfl, rfl⟩
  · exact absurd (bufRead_congr hbuf hdraw bank j) hread
  · have hcap := s.cfg.cap_range
    exact ⟨rfl, not_not.1 fun hne => hread (bufRead_appended_other (by omega) hne)⟩

/-! ## What a tick does to the reader -/

theorem SameSensor.trans {s t u : State} (h : SameSensor s t) (k : SameSensor t u) : SameSensor s u where
  cfg := k.cfg.trans h.cfg
  snsDone := k.snsDone.trans h.snsDone
  cmdErr := k.cmdErr.trans h.cmdErr
  snsCode := k.snsCode.trans h.snsCode
  snsNbits := k.snsNbits.trans h.snsNbits
  snsState := k.snsState.trans h.snsState
  payload := k.payload.trans h.payload
  snsCnt := k.snsCnt.trans h.snsCnt
  dqOe := k.dqOe.trans h.dqOe

theorem DecoderStep.sameSensor {s t : State} {i : Instr} (h : DecoderStep s i t) : SameSensor s t := by
  rw [h.frame]; constructor <;> rfl

theorem CaptureStep.sameSensor {irIn : Bool} {s t : State} {i : Instr} (h : CaptureStep irIn s i t) :
    SameSensor s (sampleIr irIn t) := by
  rw [h.frame]; constructor <;> rfl

/-- What a tick that is not a reset tick does to the sensor path: the bus phase, then the sensor phase on what the bus phase
left of it. -/
theorem step_sensor {s t : State} (hr : (tickInput s).rst = false) (h : step s = .next t) :
    ∃ s1 s3 i s4, BusStep (takeInput s) (tickInput s).bus s1 ∧ SameSensor s1 s3 ∧
      SensorStep (tickInput s).dqIn s3 i s4 ∧ t = endPhase s4 := by
  rcases tick_next h with ⟨hrst, _⟩ | ⟨_, _, s1, s2, u, s4, _, _, i, hb, hd, hc, hs, rfl⟩
  · rw [hr] at hrst; cases hrst
  · exact ⟨s1, _, i, s4, hb, hd.sameSensor.trans hc.sameSensor, hs, rfl⟩

/-! ## SNS_DONE -/

/-- The bus phase clears SNS_DONE by W1C and by an accepted SNS_START (R234, R236). -/
theorem BusStep.snsDone {s t : State} {b : Option BusRequest} (h : BusStep s b t) :
    t.status.snsDone = (s.status.snsDone && !(w1cMask b).getLsbD 2 &&
      !(isSnsStart b && decide (s.snsState = .idle))) := by
  cases h
  case idle => simp [w1cMask, isSnsStart]
  case read hs ha hw => simp [w1cMask, isSnsStart, hw]
  case ctrl hs ho hw => simp [w1cMask, isSnsStart, ho, writeCtrl]
  case cmdNop hs ho hw hc => simp [w1cMask, isSnsStart, ho, hc]
  case cmdStart hs ho hw hc =>
    by_cases hi : s.snsState = .idle <;>
      simp [w1cMask, isSnsStart, hs, ho, hw, hc, startSensor, hi, flagStarted, flagCmdErr]
  case cmdRsvd r hs ho hw hc =>
    simp [w1cMask, isSnsStart, ho, show cmdOp r.wdata ≠ 1 by omega, flagCmdErr]
  case status hs ho hw => simp [w1cMask, isSnsStart, hs, ho, hw, flagW1c]
  case other hs ha hw ho => simp [w1cMask, isSnsStart, ho.2.1, ho.2.2]

/-- A finish is what leads a busy reader to IDLE, and what sets SNS_DONE in the sensor phase (R183). -/
theorem SensorStep.snsDone {d : Bool} {s t : State} {i : Instr} (h : SensorStep d s i t) :
    t.status.snsDone = (s.status.snsDone || (decide (s.snsState ≠ .idle) && decide (t.snsState = .idle))) := by
  cases h <;> simp [*, flagDone]

/-- The tick that accepts SNS_START does not finish the read. -/
theorem SensorStep.busy_of_startLow {d : Bool} {s t : State} {i : Instr} (h : SensorStep d s i t)
    (hs : s.snsState = .startLow) : t.snsState ≠ .idle := by
  cases h
  case startLowCont => simp [hs]
  case startLowEnd => simp
  all_goals simp_all only [reduceCtorEq]

/-- Settles O31: the bus phase's clears come first (`BusStep.snsDone`), then the sensor phase's finish
(`SensorStep.snsDone`). The read that this tick starts is the one case in which the bus phase changes STATE, and it does not
finish in it. -/
theorem sensorDoneFlag : Obligations.SensorDoneFlag := by
  intro s t hr h
  obtain ⟨s1, s3, i, s4, hb, k, hs, rfl⟩ := step_sensor hr h
  have hdone := hb.snsDone
  rw [takeInput_status, takeInput_snsState] at hdone
  rw [endPhase_status, endPhase_snsState, hs.snsDone, k.snsDone, k.snsState, hdone]
  rcases hb.reader with ⟨_, hidle, rfl⟩ | ⟨_, hst, _⟩
  · rw [takeInput_snsState] at hidle
    have hlow : (startSensor (noData (takeInput s))).snsState = .startLow := by simp [startSensor, hidle]
    have hbusy := hs.busy_of_startLow (k.snsState.trans hlow)
    simp [hidle, hbusy]
  · rw [hst, takeInput_snsState]

/-! ## The reader's invariant -/

/-- The data registers hold no more bits than NBITS counts. -/
structure BitsReceived (s : State) : Prop where
  nbits_le : s.snsNbits.toNat ≤ 40
  received : ∀ (j : Nat) (h : j < 5), (s.payload[j]).toNat < 2 ^ (s.snsNbits.toNat - 8 * j)

theorem SensorInv.bits {s : State} (h : SensorInv s) : BitsReceived s := ⟨h.nbits_le, h.received⟩

/-- `shift` puts the bit into the byte that is being received (R184). -/
theorem BitsReceived.after_shiftBit {s : State} (h : BitsReceived s) (hn : s.snsNbits.toNat < 40) (b : Bool) :
    BitsReceived (shiftBit b s) := by
  have hcount : (s.snsNbits + 1#6).toNat = s.snsNbits.toNat + 1 := by
    rw [BitVec.toNat_add]; exact Nat.mod_eq_of_lt (by simp; omega)
  constructor
  · rw [shiftBit_snsNbits, hcount]; omega
  · intro j hj
    simp only [shiftBit_payload, shiftBit_snsNbits, hcount, shiftedPayload, shiftPayload_toNat]
    have hold := h.received j hj
    split
    next hbyte =>
      have hb : b.toNat ≤ 1 := by cases b <;> decide
      have hmod := Nat.mod_le (2 * (s.payload[j]).toNat + b.toNat) 256
      rw [show s.snsNbits.toNat + 1 - 8 * j = s.snsNbits.toNat - 8 * j + 1 by omega, Nat.pow_succ]
      omega
    next => exact hold.trans_le (Nat.pow_le_pow_right (by decide) (by omega))

/-- The invariant depends on the reader and the parameters alone. -/
theorem SensorInv.congr {s t : State} (h : SensorInv s) (hcfg : t.cfg = s.cfg) (hst : t.snsState = s.snsState)
    (hcnt : t.snsCnt = s.snsCnt) (hn : t.snsNbits = s.snsNbits) (hp : t.payload = s.payload)
    (hc : t.snsCode = s.snsCode) : SensorInv t := by
  obtain ⟨h1, h2, h3, h4, h5, h6, h7, h8, h9⟩ := h
  constructor <;> simpa only [hcfg, hst, hcnt, hn, hp, hc]

theorem SensorInv.sameSensor {s t : State} (h : SensorInv s) (k : SameSensor s t) : SensorInv t :=
  h.congr k.cfg k.snsState k.snsCnt k.snsNbits k.payload k.snsCode

/-- A read that has just started. -/
theorem sensorInv_started {s : State} (hi : s.snsState = .idle) : SensorInv (startSensor s) := by
  rw [startSensor, if_pos hi]
  constructor <;> simp [snsLimit, snsStartLowUs]

theorem BusStep.sensorInv {s t : State} {b : Option BusRequest} (hb : BusStep s b t) (h : SensorInv s) : SensorInv t := by
  rcases hb.reader with ⟨_, hi, rfl⟩ | ⟨_, hst, hcnt, hn, hp, hc⟩
  · exact sensorInv_started hi
  · exact h.congr hb.sameCapture.cfg hst hcnt hn hp hc

/-- Waiting short of the limit keeps the count below it. -/
theorem SensorInv.after_stay {s : State} (h : SensorInv s) (hb : s.snsState ≠ .idle)
    (he : elapsed s ≠ snsLimit s.cfg s.snsState) : SensorInv (stay s) := by
  have hlt := h.busyCount hb
  have hrange := snsLimit_range s.cfg s.snsState hb
  refine ⟨h.nbits_le, h.early, h.receiving, fun hi => absurd hi hb, fun _ => ?_, h.busyCode, h.okBits,
    h.badBits, h.received⟩
  rw [elapsed] at he
  show (BitVec.ofNat 15 (s.snsCnt.toNat + 1)).toNat < snsLimit s.cfg s.snsState
  rw [BitVec.toNat_ofNat, Nat.mod_eq_of_lt (by omega)]
  omega

/-- A move to another busy state of a read starts its count anew. -/
theorem sensorInv_moveTo {st : SnsState} {s : State} (hbits : BitsReceived s) (hcode : s.snsCode = .noCode)
    (hst : st ≠ .idle)
    (hearly : st = .startLow ∨ st = .release ∨ st = .respLow ∨ st = .respHigh ∨ st = .dataLow → s.snsNbits = 0#6)
    (hrecv : st = .bitHigh ∨ st = .bitMeasure → s.snsNbits.toNat < 40) : SensorInv (moveTo st s) where
  nbits_le := hbits.nbits_le
  early := hearly
  receiving := hrecv
  idleCount hi := absurd hi hst
  busyCount _ := by
    have := snsLimit_range s.cfg st hst
    show 0 < snsLimit s.cfg st
    omega
  busyCode _ := hcode
  okBits hc := nomatch hcode.symm.trans hc
  badBits hc := nomatch hcode.symm.trans hc
  received := hbits.received

/-- A finished read is idle, and its code says what holds of the bytes. -/
theorem sensorInv_finish {code : SnsCode} {s : State} (hbits : BitsReceived s)
    (hok : code = .ok → s.snsNbits = 40#6 ∧ checksumHolds s.payload = true)
    (hbad : code = .checksumError → s.snsNbits = 40#6 ∧ checksumHolds s.payload = false) : SensorInv (finish code s) where
  nbits_le := hbits.nbits_le
  early := by simp
  receiving := by simp
  idleCount _ := rfl
  busyCount hb := absurd rfl hb
  busyCode hb := absurd rfl hb
  okBits hc := by simpa [checksumHolds] using hok hc
  badBits hc := by simpa [checksumHolds] using hbad hc
  received := hbits.received

/-- The sensor phase keeps the reader's invariant: it waits short of a limit, moves on, or finishes, the last two perhaps
after a shift. -/
theorem SensorStep.sensorInv {d : Bool} {s t : State} {i : Instr} (hc : SensorStep d s i t) (h : SensorInv s) :
    SensorInv t := by
  have hdrive : SensorInv (driveLine s) := h.congr rfl rfl rfl rfl rfl rfl
  have hnone (hst : s.snsState ≠ .idle) : (driveLine s).snsCode = .noCode := h.busyCode hst
  have hshift (hst : s.snsState = .bitMeasure) : BitsReceived (shiftBit (bitValue s) (driveLine s)) :=
    hdrive.bits.after_shiftBit (h.receiving (.inr hst)) _
  have hfull (hn : s.snsNbits.toNat + 1 = 40) : (shiftBit (bitValue s) (driveLine s)).snsNbits = 40#6 := by
    rw [shiftBit_snsNbits, driveLine_snsNbits]; bv_omega
  cases hc
  case idle => exact hdrive
  case startLowCont hst he | releaseCont hst he | respLowWait hst _ he | respHighWait hst _ he | dataLowWait hst _ he |
      bitHighWait hst _ he | measureWait hst _ he =>
    exact hdrive.after_stay (by simp [hst]) (by show elapsed s ≠ snsLimit s.cfg s.snsState; rw [hst]; exact he)
  case startLowEnd hst _ | releaseEnd hst _ | respLowOk hst _ | respHighOk hst _ =>
    exact sensorInv_moveTo hdrive.bits (hnone (by simp [hst])) (by decide) (fun _ => h.early (by simp [hst])) (by simp)
  case dataLowOk hst _ =>
    exact sensorInv_moveTo hdrive.bits (hnone (by simp [hst])) (by decide) (by simp) fun _ => by
      simp [h.early (by simp [hst])]
  case bitHighOk hst _ =>
    exact sensorInv_moveTo hdrive.bits (hnone (by simp [hst])) (by decide) (by simp) fun _ => h.receiving (.inl hst)
  case measureBit hst _ hn =>
    have hlt := h.receiving (.inr hst)
    exact sensorInv_moveTo (hshift hst) (hnone (by simp [hst])) (by decide) (by simp) fun _ => by
      rw [shiftBit_snsNbits, driveLine_snsNbits]; bv_omega
  case measureLastOk hst _ hn hsum => exact sensorInv_finish (hshift hst) (fun _ => ⟨hfull hn, hsum⟩) (by simp)
  case measureLastBad hst _ hn hsum => exact sensorInv_finish (hshift hst) (by simp) fun _ => ⟨hfull hn, hsum⟩
  case respLowFail | respHighFail | dataLowFail | bitHighFail | measureFail =>
    exact sensorInv_finish hdrive.bits (by simp) (by simp)

theorem sensorInv_afterReset (cfg : Config) (inputs : List TickInput) (draws : Nat) :
    SensorInv (State.afterReset cfg inputs draws) := by
  constructor <;> simp [State.afterReset]

/-- Settles O18: the bus phase starts a read or leaves the reader alone, and the sensor phase keeps the invariant. -/
theorem sensorInvariantKept : Obligations.SensorInvariantKept := by
  intro s t hs h
  cases hr : (tickInput s).rst
  case true => rw [step_reset hr h]; exact sensorInv_afterReset ..
  case false =>
    obtain ⟨s1, s3, i, s4, hb, k, hc, rfl⟩ := step_sensor hr h
    have hstart : SensorInv (takeInput s) := hs.congr (by simp) (by simp) (by simp) (by simp) (by simp) (by simp)
    have hbus : SensorInv s1 := hb.sensorInv hstart
    exact (hc.sensorInv (hbus.sameSensor k)).congr rfl rfl rfl rfl rfl rfl

/-! ## After reset -/

theorem resultInv_afterReset (cfg : Config) (inputs : List TickInput) (draws : Nat) :
    ResultInv (State.afterReset cfg inputs draws) := by
  constructor <;> simp [State.afterReset]

/-- Settles O14: the three units' invariants by their own lemmas; BUF's list is empty. -/
theorem invariantsHoldAfterReset : Obligations.InvariantsHoldAfterReset := by
  refine ⟨⟨Config.reference, [], 0, rfl⟩, ?_⟩
  rintro cfg inputs draws s rfl
  exact ⟨captureInv_afterReset .., sensorInv_afterReset .., resultInv_afterReset ..,
    by simp [SamplesInRange, State.afterReset], rfl⟩

end Sys2Proof.Machine

/-! Proofs of 20_memory.md: the register window (R60), which ticks have a meaning (R61), and reads without a side effect
(R64). -/

namespace Sys2Proof.Machine

/-! ## The contract of a request (R61) -/

theorem requestInContract_some (r : BusRequest) :
    requestInContract (some r) = true ↔ r.size = 4 ∧ r.off.toNat % 4 = 0 := by
  simp [requestInContract]

/-- A tick within the contract: a reset tick, a tick without a request, or one with an aligned 32-bit request. -/
theorem inputInContract_iff (inp : TickInput) : inputInContract inp = true ↔
    inp.rst = true ∨ inp.bus = none ∨ ∃ r, inp.bus = some r ∧ r.size = 4 ∧ r.off.toNat % 4 = 0 := by
  rw [inputInContract, Bool.or_eq_true]
  cases hb : inp.bus with
  | none => simp [requestInContract]
  | some r => simp [requestInContract_some]

theorem step_next_of_inContract {s : State} (h : inputInContract (tickInput s) = true) : ∃ t, step s = .next t := by
  rcases tick_answer (tickInput s) (takeInput s) with ⟨_, ht⟩ | ⟨hout, _⟩
  · exact ht
  · exact absurd h (by simp [hout])

theorem step_refused_of_outside {s : State} (h : ¬ inputInContract (tickInput s) = true) :
    step s = .refused .outsideContract := by
  rcases tick_answer (tickInput s) (takeInput s) with ⟨hin, _⟩ | ⟨_, hrefused⟩
  · exact absurd hin h
  · exact hrefused

/-- Settles O10: a tick answers a next state exactly within the contract (`tick_answer`), whose three cases
`inputInContract_iff` names. -/
theorem onlyRequestsOutsideContractStop : Obligations.OnlyRequestsOutsideContractStop := by
  intro s
  refine ⟨fun h => step_next_of_inContract ((inputInContract_iff _).2 h), fun r hr hb hbad => ?_⟩
  refine step_refused_of_outside fun hin => ?_
  rcases (inputInContract_iff _).1 hin with hrst | hnone | ⟨q, hq, hsize, halign⟩
  · cases hr.symm.trans hrst
  · cases hb.symm.trans hnone
  · cases hb.symm.trans hq
    exact hbad.elim (absurd hsize) (absurd halign)

/-! ## Reads (R64)

No operation after the bus phase looks at rdata, so the word a read puts there stays to the end of the tick and changes
nothing else. -/

/-- An aligned 32-bit read puts the register's word in rdata. -/
theorem busPhase_read {off : Byte} (ha : off.toNat % 4 = 0) (wdata : Word) (s : State) :
    busPhase (some ⟨off, false, wdata, 4⟩) s = .next (readInto (registerWord off s) s) := by
  have hop : busOp (some ⟨off, false, wdata, 4⟩) = decodeRead off := by simp [busOp, decodeFields, ha]
  rw [busPhase_eq, hop, exec_decodeRead]

theorem DecoderStep.exec_readInto {s t : State} {i : Instr} (h : DecoderStep s i t) (v : Word) :
    exec i (readInto v s) = .next (readInto v t) := by
  cases h <;> rfl

theorem CaptureStep.exec_readInto {irIn : Bool} {s t : State} {i : Instr} (h : CaptureStep irIn s i t) (v : Word) :
    exec i (readInto v s) = .next (readInto v t) := by
  cases h
  case append hi => exact execCapAppend_eq (s := readInto v s) hi
  all_goals rfl

theorem SensorStep.exec_readInto {dqIn : Bool} {s t : State} {i : Instr} (h : SensorStep dqIn s i t) (v : Word) :
    exec i (readInto v s) = .next (readInto v t) := by
  cases h <;> rfl

theorem decoderPhase_readInto {s t : State} (h : decoderPhase s = .next t) (v : Word) :
    decoderPhase (readInto v s) = .next (readInto v t) :=
  (decoderPhase_eq _).trans ((decoderPhase_next h).exec_readInto v)

theorem capturePhase_readInto {irIn : Bool} {s t : State} (h : capturePhase irIn s = .next t) (v : Word) :
    capturePhase irIn (readInto v s) = .next (readInto v t) := by
  obtain ⟨u, hu, rfl⟩ := capturePhase_next h
  exact capturePhase_of_exec (decode_captureVector irIn (readInto v s)) (hu.exec_readInto v)

theorem sensorPhase_readInto {dqIn : Bool} {s t : State} (h : sensorPhase dqIn s = .next t) (v : Word) :
    sensorPhase dqIn (readInto v s) = .next (readInto v t) :=
  (sensorPhase_eq ..).trans ((sensorPhase_next h).exec_readInto v)

/-- The phases after the bus phase leave rdata as it is. -/
theorem phases_rdata {irIn dqIn : Bool} {s1 s2 s3 s4 : State} (h2 : decoderPhase s1 = .next s2)
    (h3 : capturePhase irIn s2 = .next s3) (h4 : sensorPhase dqIn s3 = .next s4) : s4.rdata = s1.rdata := by
  obtain ⟨u, hu, rfl⟩ := capturePhase_next h3
  have decoder : s2.rdata = s1.rdata := by rw [(decoderPhase_next h2).frame]
  have capture : u.rdata = s2.rdata := by rw [hu.frame]
  have sensor : s4.rdata = u.rdata := by rw [(sensorPhase_next h4).frame]; rfl
  exact sensor.trans (capture.trans decoder)

/-- The three phases after the bus phase always answer a next state. -/
theorem phases_answer (irIn dqIn : Bool) (s1 : State) : ∃ s2 s3 s4, decoderPhase s1 = .next s2 ∧
    capturePhase irIn s2 = .next s3 ∧ sensorPhase dqIn s3 = .next s4 := by
  obtain ⟨s2, h2, _⟩ := exec_decOp s1
  obtain ⟨u, h3, _⟩ := exec_capOp irIn s2
  obtain ⟨s4, h4, _⟩ := exec_snsOp dqIn (sampleIr irIn u)
  exact ⟨s2, sampleIr irIn u, s4, (decoderPhase_eq s1).trans h2,
    capturePhase_of_exec (decode_captureVector irIn s2) h3, (sensorPhase_eq ..).trans h4⟩

/-- Settles O25: the two ticks differ in the bus phase by rdata alone, and every later phase carries that difference
through unchanged. -/
theorem readsHaveNoSideEffect : Obligations.ReadsHaveNoSideEffect := by
  intro inp off wdata s hr ha
  obtain ⟨s2, s3, s4, h2, h3, h4⟩ := phases_answer inp.irIn inp.dqIn (noData s)
  have idle : busPhase none s = .next (noData s) := rfl
  have read : busPhase (some ⟨off, false, wdata, 4⟩) s = .next (readInto (registerWord off s) (noData s)) :=
    busPhase_read ha wdata s
  exact ⟨endPhase s4,
    tick_of_phases (inp := { inp with bus := some ⟨off, false, wdata, 4⟩ }) hr read
      (decoderPhase_readInto h2 _) (capturePhase_readInto h3 _) (sensorPhase_readInto h4 _),
    tick_of_phases (inp := { inp with bus := none }) hr idle h2 h3 h4,
    (endPhase_rdata s4).trans (phases_rdata h2 h3 h4)⟩

/-! ## The register window (R60) -/

theorem windowOffset_base_add (c : Config) (off : Byte) : windowOffset c (c.base + off.toNat) = some off := by
  have hin : c.base ≤ c.base + off.toNat ∧ c.base + off.toNat < c.base + 256 :=
    ⟨Nat.le_add_right .., Nat.add_lt_add_left off.isLt _⟩
  rw [windowOffset, if_pos hin, Nat.add_sub_cancel_left, BitVec.ofNat_toNat, BitVec.setWidth_eq]

theorem requestAt_base_add (c : Config) (off : Byte) (size : Nat) (we : Bool) (wdata : Word) :
    requestAt c (c.base + off.toNat) size we wdata = some ⟨off, we, wdata, size⟩ := by
  rw [requestAt, windowOffset_base_add, Option.map_some]

theorem requestAt_outside {c : Config} {addr : Nat} (h : addr < c.base ∨ c.base + 256 ≤ addr) (size : Nat) (we : Bool)
    (wdata : Word) : requestAt c addr size we wdata = none := by
  rw [requestAt, windowOffset, if_neg (by omega), Option.map_none]

/-- Settles O29: an address in the window is its offset's (`requestAt_base_add`), one outside makes no request
(`requestAt_outside`). -/
theorem windowIsAtBase : Obligations.WindowIsAtBase := by
  intro c off v addr size we
  exact ⟨requestAt_base_add c off 4 false 0#32, requestAt_base_add c off 4 true v,
    fun h => requestAt_outside h size we v, Nat.mul_mod_right ..⟩

end Sys2Proof.Machine

/-! Proofs of 30_encoding.md: the result registers (R84 to R87), which operation a word selects (R100 to R105), and the
registers after reset (R80). -/

namespace Sys2Proof.Machine

/-! ## The three result registers (R84 to R87) -/

/-- The states agree on the result registers and on the parameters, BUTTON_MAP among them. -/
structure SameResult (s t : State) : Prop where
  cfg      : t.cfg = s.cfg
  irResult : t.irResult = s.irResult
  irRaw    : t.irRaw = s.irRaw
  irLen    : t.irLen = s.irLen

theorem ResultInv.congr {s t : State} (h : ResultInv s) (k : SameResult s t) : ResultInv t := by
  obtain ⟨h1, h2, h3, h4⟩ := h
  constructor <;> simpa only [k.cfg, k.irResult, k.irRaw, k.irLen]

/-- What a tick that is not a reset tick does to the result registers: only its decoder phase writes them. -/
theorem step_result {s t : State} (hr : (tickInput s).rst = false) (h : step s = .next t) :
    ∃ s1 i s2, SameResult s s1 ∧ DecoderStep s1 i s2 ∧ SameResult s2 t := by
  rcases tick_next h with ⟨hrst, _⟩ | ⟨_, _, s1, s2, u, v, i, _, _, hb, hd, hc, hs, rfl⟩
  · rw [hr] at hrst; cases hrst
  · refine ⟨s1, i, s2, ?_, hd, ?_⟩
    · rw [hb.frame]; constructor <;> simp
    · rw [hs.frame, hc.frame]; constructor <;> rfl

/-! ## What the decoder publishes (41_decoder.md R156, R158) -/

/-- A pair that fails one of the loop's tests gives its mark or its space as the reason. -/
theorem necPairs_error {f : Nat → Sample} {r : Reason} : ∀ {n i : Nat} {w : Word}, necPairs f n i w = .error r →
    r = .bitMark ∨ r = .bitSpace
  | 0, _, _, h => nomatch h
  | n + 1, i, w, h => by
    rw [necPairs] at h
    split at h
    · split at h
      · exact necPairs_error h
      · injection h with h; exact .inr h.symm
    · injection h with h; exact .inl h.symm

/-- Two bytes that differ in every bit, as the address and the command check ask (R158). -/
theorem eq_not_of_xor_eq_ff {a b : Byte} (h : a ^^^ b = 0xFF#8) : b = ~~~a := by
  rw [← BitVec.xor_allOnes, ← BitVec.xor_right_inj a, h]
  simp

/-- A word is its four bytes, the highest first (R158). -/
theorem word_eq_bytes (w : Word) : w = necAddress w ++ necAddressInv w ++ necCommand w ++ necCommandInv w := by
  unfold necAddress necAddressInv necCommand necCommandInv
  rw [BitVec.extractLsb'_append_extractLsb'_eq_extractLsb' (by decide),
    BitVec.extractLsb'_append_extractLsb'_eq_extractLsb' (by decide),
    BitVec.extractLsb'_append_extractLsb'_eq_extractLsb' (by decide), BitVec.extractLsb'_eq_self]

/-- DEC_NEC either fails at a sample, which publishes no raw word, or checks the word it has assembled. -/
theorem classifyNec_cases (f : Nat → Sample) :
    (∃ r, (r = .startMark ∨ r = .startSpace ∨ r = .bitMark ∨ r = .bitSpace) ∧ classifyNec f = invalid r 0#32) ∨
    ∃ w, classifyNec f = checkWord w := by
  unfold classifyNec
  split
  · split
    · split
      next w _ => exact .inr ⟨w, rfl⟩
      next r hr => exact .inl ⟨r, .inr (.inr (necPairs_error hr)), rfl⟩
    · exact .inl ⟨.startSpace, by simp, rfl⟩
  · exact .inl ⟨.startMark, by simp, rfl⟩

/-! ## Each publication is of a legal kind -/

theorem resultInv_publish_repeat {s : State} (h0 : 0 < s.decLen.toNat) (h10 : s.decLen.toNat < 10) :
    ResultInv (publish ⟨.repeatCode, .noReason, 0#8, 0#8, 0#32⟩ s) := by
  constructor <;> simp [unknownOrError, h0, h10]

theorem resultInv_publish_invalid {r : Reason} {raw : Word} {s : State} (hnone : r ≠ .noReason)
    (hraw : r ≠ .addrCheck ∧ r ≠ .cmdCheck → raw = 0#32)
    (hlen : r = .length ↔ s.decLen.toNat = 0 ∨ (10 ≤ s.decLen.toNat ∧ s.decLen.toNat ≤ 50)) :
    ResultInv (publish (invalid r raw) s) where
  noResult := nofun
  data := nofun
  repeatCode := nofun
  invalid _ := ⟨hnone, rfl, rfl, rfl, hraw, hlen⟩

theorem resultInv_publish_data {a c : Byte} {w : Word} {s : State} (hw : w = a ++ ~~~a ++ c ++ ~~~c)
    (hlen : 50 < s.decLen.toNat) : ResultInv (publish ⟨.data, .noReason, a, c, w⟩ s) where
  noResult := nofun
  data _ := ⟨rfl, rfl, hw, hlen⟩
  repeatCode := nofun
  invalid := nofun

/-- The two checks on the word give its reason, or DATA with the inverses in place. -/
theorem resultInv_publish_checkWord (w : Word) {s : State} (hlen : 50 < s.decLen.toNat) :
    ResultInv (publish (checkWord w) s) := by
  unfold checkWord
  split
  · exact resultInv_publish_invalid (by decide) (by simp) ⟨nofun, by omega⟩
  · split
    · exact resultInv_publish_invalid (by decide) (by simp) ⟨nofun, by omega⟩
    · have ha : necAddressInv w = ~~~necAddress w := eq_not_of_xor_eq_ff (not_not.1 ‹_›)
      have hc : necCommandInv w = ~~~necCommand w := eq_not_of_xor_eq_ff (not_not.1 ‹_›)
      exact resultInv_publish_data (by rw [← ha, ← hc]; exact word_eq_bytes w) hlen

/-- The decoder phase leaves the result registers alone or publishes by the length it found (R150). -/
theorem DecoderStep.resultInv {s t : State} {i : Instr} (h : DecoderStep s i t) (hs : ResultInv s) : ResultInv t := by
  cases h
  case idle => exact hs
  case repeatCode h0 h10 => exact resultInv_publish_repeat h0 h10
  case badlen hl => exact resultInv_publish_invalid (by decide) (fun _ => rfl) ⟨fun _ => hl, fun _ => rfl⟩
  case nec hl =>
    rcases classifyNec_cases (decodeSample s) with ⟨r, hr, hv⟩ | ⟨w, hv⟩
    · rw [hv]
      have hlen : ¬ (s.decLen.toNat = 0 ∨ (10 ≤ s.decLen.toNat ∧ s.decLen.toNat ≤ 50)) := by omega
      rcases hr with rfl | rfl | rfl | rfl <;>
        exact resultInv_publish_invalid (by decide) (fun _ => rfl) ⟨nofun, fun h => absurd h hlen⟩
    · rw [hv]; exact resultInv_publish_checkWord w hl

/-- Settles O19: only the decoder phase writes the result registers, and what it publishes is legal whatever they held. -/
theorem resultInvariantKept : Obligations.ResultInvariantKept := by
  intro s t hs h
  cases hr : (tickInput s).rst
  case true => rw [step_reset hr h]; exact resultInv_afterReset ..
  case false =>
    obtain ⟨s1, i, s2, k1, hd, k2⟩ := step_result hr h
    exact (hd.resultInv (hs.congr k1)).congr k2

/-! ## The tables' rows (R105) -/

/-- Rows of which no two apply together, and one does: exactly one applies. -/
theorem length_filter_eq_one {α : Type} {p : α → Bool} {rows : List α}
    (hdisj : rows.Pairwise fun r q => ¬ (p r = true ∧ p q = true)) (hex : ∃ r ∈ rows, p r = true) :
    (rows.filter p).length = 1 := by
  induction rows with
  | nil => simp at hex
  | cons r rows ih =>
    obtain ⟨hr, hrows⟩ := List.pairwise_cons.1 hdisj
    by_cases hp : p r = true
    · have hnone : rows.filter p = [] := List.filter_eq_nil_iff.2 fun q hq hpq => hr q hq ⟨hp, hpq⟩
      rw [List.filter_cons_of_pos hp, hnone, List.length_singleton]
    · rw [List.filter_cons_of_neg hp]
      obtain ⟨q, hq, hpq⟩ := hex
      refine ih hrows ⟨q, (List.mem_cons.1 hq).resolve_left ?_, hpq⟩
      rintro rfl
      exact hp hpq

/-- Two rows whose matches differ in a bit that both masks look at never apply to one word. -/
theorem BusRow.not_hits_both {r q : BusRow} (h : r.pattern &&& q.mask ≠ q.pattern &&& r.mask) (w : BitVec 41) :
    ¬ (r.hits w = true ∧ q.hits w = true) := by
  rintro ⟨hr, hq⟩
  simp only [BusRow.hits, beq_iff_eq] at hr hq
  rw [← hr, ← hq, BitVec.and_assoc, BitVec.and_assoc, BitVec.and_comm r.mask] at h
  exact h rfl

theorem busRows_disjoint : busRows.Pairwise fun r q => r.pattern &&& q.mask ≠ q.pattern &&& r.mask := by decide

/-- A row looks at the bits of its mask alone. -/
theorem BusRow.hits_low {r : BusRow} {n : Nat} (h : r.mask.toNat < 2 ^ n) (w : BitVec 41) :
    r.hits ((w.extractLsb' 0 n).setWidth 41) = r.hits w := by
  have hmask : (w.extractLsb' 0 n).setWidth 41 &&& r.mask = w &&& r.mask := by
    apply BitVec.eq_of_getLsbD_eq
    intro i hi
    by_cases hn : i < n
    · simp [hi, hn]
    · have hzero : r.mask.getLsbD i = false :=
        Nat.testBit_lt_two_pow (h.trans_le (Nat.pow_le_pow_right (by decide) (not_lt.1 hn)))
      simp [hzero]
  rw [BusRow.hits, hmask, BusRow.hits]

theorem exists_row_of_misaligned : ∀ v : BitVec 2, v ≠ 0#2 →
    ∃ r ∈ busRows, r.hits (v.setWidth 41) = true ∧ r.mask.toNat < 2 ^ 2 := by decide

/-- But for a write of CMD, `we` and `off[7:2]` decide the row of an aligned request. -/
theorem exists_row_of_aligned : ∀ v : BitVec 7, v ≠ 0x41#7 →
    ∃ r ∈ busRows, r.hits ((v ++ 0#2).setWidth 41) = true ∧ r.mask.toNat < 2 ^ (7 + 2) := by decide

/-- A write of CMD finds its row by CMD.OP. -/
theorem exists_row_of_cmdOp : ∀ op : BitVec 4,
    ∃ r ∈ busRows, r.hits ((op ++ (0x41#7 ++ 0#2)).setWidth 41) = true ∧ r.mask.toNat < 2 ^ (4 + (7 + 2)) := by decide

theorem exists_busRow_hits (w : BitVec 41) : ∃ r ∈ busRows, r.hits w = true := by
  have hlow : w.extractLsb' 2 7 ++ w.extractLsb' 0 2 = w.extractLsb' 0 (7 + 2) :=
    BitVec.extractLsb'_append_extractLsb'_eq_extractLsb' rfl
  have hop : w.extractLsb' 9 4 ++ w.extractLsb' 0 (7 + 2) = w.extractLsb' 0 (4 + (7 + 2)) :=
    BitVec.extractLsb'_append_extractLsb'_eq_extractLsb' rfl
  by_cases halign : w.extractLsb' 0 2 = 0#2
  · by_cases hcmd : w.extractLsb' 2 7 = 0x41#7
    · obtain ⟨r, hr, hhit, hmask⟩ := exists_row_of_cmdOp (w.extractLsb' 9 4)
      rw [← hcmd, ← halign, hlow, hop, BusRow.hits_low hmask] at hhit
      exact ⟨r, hr, hhit⟩
    · obtain ⟨r, hr, hhit, hmask⟩ := exists_row_of_aligned _ hcmd
      rw [← halign, hlow, BusRow.hits_low hmask] at hhit
      exact ⟨r, hr, hhit⟩
  · obtain ⟨r, hr, hhit, hmask⟩ := exists_row_of_misaligned _ halign
    rw [BusRow.hits_low hmask] at hhit
    exact ⟨r, hr, hhit⟩

/-- Settles O3: each vector table is checked on its 8 or 128 vectors. Of the bus table no two rows meet (`busRows_disjoint`)
and the rows cover every request word (`exists_busRow_hits`). -/
theorem everyWordMatchesExactlyOneRow : Obligations.EveryWordMatchesExactlyOneRow := by
  refine ⟨by decide, by decide, by decide, fun w => ?_, by decide⟩
  exact length_filter_eq_one (busRows_disjoint.imp fun h => BusRow.not_hits_both h w) (exists_busRow_hits w)

/-! ## Which operation a request selects (R103) -/

theorem decodeFields_misaligned {off : Byte} (h : off.toNat % 4 ≠ 0) (we : Bool) (wdata : Word) :
    decodeFields off we wdata = .busMisaligned off we wdata := if_pos h

theorem decodeFields_read {off : Byte} (h : off.toNat % 4 = 0) (wdata : Word) :
    decodeFields off false wdata = decodeRead off := if_neg (not_not.2 h)

theorem decodeFields_write {off : Byte} (h : off.toNat % 4 = 0) (wdata : Word) :
    decodeFields off true wdata = decodeWrite off wdata := if_neg (not_not.2 h)

/-- An offset from 0x24 on is none of the registers' (R80). -/
theorem ne_of_reserved {off : Byte} (h : 0x24 ≤ off.toNat) {c : Byte} (hc : c.toNat < 0x24) : off ≠ c := by
  rintro rfl; omega

theorem decodeRead_reserved {off : Byte} (h : 0x24 ≤ off.toNat) : decodeRead off = .rdRsvd off := by
  simp [decodeRead, ne_of_reserved h]

theorem decodeWrite_reserved {off : Byte} (h : 0x24 ≤ off.toNat) (wdata : Word) :
    decodeWrite off wdata = .wrRsvd off wdata := by
  have hro : readOnlyOffset off = false := by
    rw [readOnlyOffset, decide_eq_false (p := off.toNat ≤ 0x20) (by omega), Bool.and_false]
  simp [decodeWrite, ne_of_reserved h, hro]

theorem decodeCommand_nop {wdata : Word} (h : cmdOp wdata = 0) : decodeCommand wdata = .wrCmdNop wdata := if_pos h

theorem decodeCommand_start {wdata : Word} (h : cmdOp wdata = 1) : decodeCommand wdata = .wrCmdSnsStart wdata := by
  rw [decodeCommand, if_neg (by omega), if_pos h]

theorem decodeCommand_reserved {wdata : Word} (h : 2 ≤ cmdOp wdata) : decodeCommand wdata = .wrCmdRsvd wdata := by
  rw [decodeCommand, if_neg (by omega), if_neg (by omega)]

/-- Settles O5: the operation is `decodeFields` of the request's fields. A register's offset computes; the reserved offsets
and the commands are ranges. -/
theorem busOperationSelection : Obligations.BusOperationSelection := by
  refine ⟨rfl, fun off we wdata => ⟨decodeFields off we wdata, decode_busWordOf _, ?misaligned, ?read, ?write⟩⟩
  case misaligned => exact fun h => decodeFields_misaligned h we wdata
  case read =>
    rintro rfl
    refine ⟨?_, ?_, ?_, ?_, ?_, ?_, ?_, ?_, ?_, ?reserved⟩
    case reserved => exact fun ⟨ha, hr⟩ => (decodeFields_read ha wdata).trans (decodeRead_reserved hr)
    all_goals rintro rfl; rfl
  case write =>
    rintro rfl
    refine ⟨?ctrl, ?nop, ?start, ?rsvd, ?status, ?readOnly, ?reserved⟩
    case ctrl => rintro rfl; rfl
    case nop => rintro ⟨rfl, hop⟩; exact decodeCommand_nop hop
    case start => rintro ⟨rfl, hop⟩; exact decodeCommand_start hop
    case rsvd => rintro ⟨rfl, hop⟩; exact decodeCommand_reserved hop
    case status => rintro rfl; rfl
    case readOnly => rintro (rfl | rfl | rfl | rfl | rfl | rfl) <;> rfl
    case reserved => exact fun ⟨ha, hr⟩ => (decodeFields_write ha wdata).trans (decodeWrite_reserved hr wdata)

/-! ## Which operation a condition vector selects (R100 to R102)

The bits of each vector are read off its definition; the operation is that of `capOp`, `decOp` or `snsOp`, in which the bits
are the conditions of the statement. -/

theorem vec7_bits (b0 b1 b2 b3 b4 b5 b6 : Bool) :
    (vec7 b0 b1 b2 b3 b4 b5 b6).getLsbD 0 = b0 ∧ (vec7 b0 b1 b2 b3 b4 b5 b6).getLsbD 1 = b1 ∧
    (vec7 b0 b1 b2 b3 b4 b5 b6).getLsbD 2 = b2 ∧ (vec7 b0 b1 b2 b3 b4 b5 b6).getLsbD 3 = b3 ∧
    (vec7 b0 b1 b2 b3 b4 b5 b6).getLsbD 4 = b4 ∧ (vec7 b0 b1 b2 b3 b4 b5 b6).getLsbD 5 = b5 ∧
    (vec7 b0 b1 b2 b3 b4 b5 b6).getLsbD 6 = b6 := by
  simp only [vec7, BitVec.getLsbD_append, BitVec.getLsbD_ofBool]
  simp

/-- Settles O6: the pulse is `p`, which gives LONG and DUE; the other bits stand in the vector as the statement names them. -/
theorem captureSelection : Obligations.CaptureSelection := by
  intro irIn s p hp
  have hpulse : pulse s = p := pulse_eq hp
  have hlong : longGap s = decide (p > 15000) := by rw [longGap, hpulse, gapUs]
  have hdue : timeoutDue s = (s.toArmed && decide (p ≥ 100000)) := by rw [timeoutDue, hpulse, frameTimeoutUs]
  obtain ⟨en, edge, bv, long, room, due, has⟩ := vec7_bits s.ctrl.irEn (irIn != s.prevIr) s.baseValid (longGap s)
    (decide (s.idx.toNat < s.cfg.cap)) (timeoutDue s) (decide (1 ≤ s.idx.toNat))
  refine ⟨en, edge, bv, long.trans hlong, room, due.trans hdue, has, ?_⟩
  rw [decode_captureVector, capOp, hlong, hdue]
  simp [capSelect]

theorem decoderVector_bits (s : State) :
    (decoderVector s).getLsbD 0 = s.decPend ∧
    (decoderVector s).getLsbD 1 = decide (necLenMin < s.decLen.toNat) ∧
    (decoderVector s).getLsbD 2 = (decide (0 < s.decLen.toNat) && decide (s.decLen.toNat < repeatLenMax)) := by
  simp only [decoderVector, BitVec.getLsbD_append, BitVec.getLsbD_ofBool]
  simp

/-- Settles O7: GT50 and RPT are the two length tests. -/
theorem decoderSelection : Obligations.DecoderSelection := by
  intro s
  have hgt50 : decide (necLenMin < s.decLen.toNat) = decide (s.decLen.toNat > 50) := rfl
  have hrpt : (decide (0 < s.decLen.toNat) && decide (s.decLen.toNat < repeatLenMax)) =
      decide (0 < s.decLen.toNat ∧ s.decLen.toNat < 10) := (Bool.decide_and ..).symm
  obtain ⟨pend, gt50, rpt⟩ := decoderVector_bits s
  refine ⟨pend, gt50.trans hgt50, rpt.trans hrpt, ?_⟩
  rw [decode_decoderVector, decOp, hgt50, hrpt]
  simp [decSelect]

theorem sensorVector_bits (d : Bool) (s : State) :
    (sensorVector d s).extractLsb' 0 3 = snsStateCode s.snsState ∧
    (sensorVector d s).getLsbD 3 = d ∧
    (sensorVector d s).getLsbD 4 = (snsBusy s && decide (elapsed s = snsLimit s.cfg s.snsState)) ∧
    (sensorVector d s).getLsbD 5 = decide (s.snsNbits.toNat + 1 = snsBits) ∧
    (sensorVector d s).getLsbD 6 = checksumHolds (shiftedPayload s.payload s.snsNbits (bitValue s)) := by
  constructor
  · rw [sensorVector, BitVec.extractLsb'_append_eq_of_add_le (by decide), BitVec.extractLsb'_eq_self]
  · simp only [sensorVector, BitVec.getLsbD_append, BitVec.getLsbD_ofBool]
    simp

/-- END, state by state (R102). -/
theorem snsBusy_and_atLimit (s : State) : (snsBusy s && decide (elapsed s = snsLimit s.cfg s.snsState)) =
    match s.snsState with
    | .idle => false
    | .startLow => decide (elapsed s = 18000)
    | .release => decide (elapsed s = s.cfg.tRel)
    | .respLow | .respHigh | .dataLow => decide (elapsed s = 100)
    | .bitHigh => decide (elapsed s = 70)
    | .bitMeasure => decide (elapsed s = 120) := by
  cases h : s.snsState <;> simp only [snsBusy, h] <;> rfl

/-- The checksum on exact integers (R185). -/
theorem checksumHolds_eq (p : Vector Byte 5) : checksumHolds p =
    decide ((p[0].toNat + p[1].toNat + p[2].toNat + p[3].toNat) % 256 = p[4].toNat) := by
  rw [Bool.eq_iff_iff, decide_eq_true_iff, checksumHolds, beq_iff_eq, ← BitVec.toNat_inj]
  simp only [BitVec.toNat_add]
  omega

/-- Settles O8: END by `snsBusy_and_atLimit`, CSUM by `checksumHolds_eq` of the shifted bytes, and the operation state by
state. -/
theorem sensorSelection : Obligations.SensorSelection := by
  intro d s e B he hB
  have helapsed : elapsed s = e := he.symm
  have hbytes : shiftedPayload s.payload s.snsNbits (bitValue s) = B := by rw [hB, he]; rfl
  obtain ⟨state, level, atEnd, final, csum⟩ := sensorVector_bits d s
  rw [snsBusy_and_atLimit, helapsed] at atEnd
  rw [hbytes, checksumHolds_eq] at csum
  refine ⟨level, atEnd, final, csum, ?_, ?_⟩
  · rw [state]; cases s.snsState <;> rfl
  · rw [decode_sensorVector, snsOp, snsBusy_and_atLimit, helapsed, hbytes, checksumHolds_eq]
    cases s.snsState <;> simp [snsSelect, snsBits]

/-! ## Registers after reset (R80) -/

/-- Settles O13: SNS_RESULT resets to CODE NONE, every other register's fields are 0. -/
theorem registersAfterReset : Obligations.RegistersAfterReset := by
  intro off
  by_cases hsns : off = 0x18#8
  · subst hsns; rfl
  · simp only [registerWord, if_neg hsns]
    split_ifs <;> rfl

end Sys2Proof.Machine

/-! Proofs of 40_capture.md: what the capture operations leave (R124 to R132), an edge in the tick of a due timeout (R133),
the range of the stored samples (R136), and the sampling of ir_in (R120). -/

namespace Sys2Proof.Machine

/-! ## The stored samples (R136) -/

theorem longGap_iff {s : State} : longGap s = true ↔ 15000 < pulse s := by
  rw [longGap, decide_eq_true_eq, gapUs]

theorem SamplesInRange.memInsert {s : State} {k : Nat} {v : Sample} (hs : SamplesInRange s)
    (hv : 1 ≤ v.toNat ∧ v.toNat ≤ 15000) : SamplesInRange { s with buf := memInsert s.buf k v } := by
  intro c hc
  rcases mem_memInsert hc with rfl | hmem
  · exact hv
  · exact hs c hmem

/-- A pulse that CAP_APPEND stores is at least 1, as the timer runs, and no long gap, so that its 16 bits hold it. -/
theorem CaptureStep.samplesInRange {irIn : Bool} {s t : State} {i : Instr} (h : CaptureStep irIn s i t)
    (hrange : CaptureRange 1 100000 s) (hs : SamplesInRange s) : SamplesInRange t := by
  cases h
  case append hb hl _ =>
    have hmin : 1 ≤ pulse s := (hrange.armed (hrange.baseline hb)).1
    have hmax : pulse s ≤ 15000 := not_lt.1 fun hlong => by simp [longGap_iff.2 hlong] at hl
    have hfits : (BitVec.ofNat 16 (pulse s)).toNat = pulse s := Nat.mod_eq_of_lt (by omega)
    exact hs.memInsert (by rw [hfits]; exact ⟨hmin, hmax⟩)
  all_goals exact hs

/-- Settles O17: a reset tick empties BUF's list; in any other tick the capture phase alone writes it, and what it stores is in
range by the capture invariant. -/
theorem storedSamplesStayInRange : Obligations.StoredSamplesStayInRange := by
  intro s t hinv hs h
  refine ⟨(captureInvariantKept s t hinv h).1, ?_⟩
  cases hr : (tickInput s).rst
  case true => rw [step_reset hr h]; exact nofun
  case false =>
    obtain ⟨s2, i, u, v, hs2, _, _, hc, hv, _, _, rfl⟩ := step_capture hr h
    have hstart : SamplesInRange s2 := by rwa [SamplesInRange, hs2.buf]
    have hstored : SamplesInRange u := hc.samplesInRange (hinv.range.congr hs2) hstart
    rwa [SamplesInRange, endPhase_buf, hv.buf]

/-! ## CAP_APPEND (R131) -/

theorem bufRead_appended_same (s : State) :
    bufRead (appended s) s.active s.idx.toNat = BitVec.ofNat 16 (pulse s) :=
  (memLookup_memInsert ..).trans (if_pos rfl)

theorem appended_idx_toNat {s : State} (h : s.idx.toNat < s.cfg.cap) : (appended s).idx.toNat = s.idx.toNat + 1 := by
  have hcap := s.cfg.cap_range
  show (s.idx + 1#16).toNat = s.idx.toNat + 1
  exact BitVec.toNat_add_of_lt (by simp; omega)

/-- Settles O36: the operation answers `appended s`, whose BUF is read entry by entry. -/
theorem appendStoresThePulse : Obligations.AppendStoresThePulse := by
  intro s p hp hroom
  refine ⟨appended s, execCapAppend_eq hroom, fun bank i hi => ?_, rfl, appended_idx_toNat hroom⟩
  split
  next hentry =>
    obtain ⟨rfl, rfl⟩ := hentry
    rw [bufRead_appended_same, pulse_eq hp]
  next hother =>
    have hcap := s.cfg.cap_range
    exact bufRead_appended_other (by omega) hother

/-! ## An edge in the tick of a due timeout (R133) -/

/-- Without an edge, a due timeout ends the burst, delivered if it holds a sample (R126, R127). -/
theorem CaptureStep.of_timeout {s t : State} {i : Instr} (h : CaptureStep s.prevIr s i t) (hen : s.ctrl.irEn = true)
    (hd : timeoutDue s = true) : t = captureIdle (if 1 ≤ s.idx.toNat then swap s else s) := by
  cases h
  case off hoff => cases hen.symm.trans hoff
  case quiet hnot => cases hd.symm.trans hnot
  case timeoutDeliver hi => rw [if_pos hi]
  case timeoutEmpty hi => rw [if_neg (by omega)]
  all_goals exact absurd rfl ‹s.prevIr ≠ s.prevIr›

/-- With an edge, a due timeout makes the gap long, and the burst ends with the edge as the next one's baseline. -/
theorem CaptureStep.of_edge_when_due {irIn : Bool} {s t : State} {i : Instr} (h : CaptureStep irIn s i t)
    (hen : s.ctrl.irEn = true) (he : irIn ≠ s.prevIr) (hd : timeoutDue s = true)
    (hidx : s.baseValid = false → s.idx = 0#16) :
    t = { edgeBookkeeping (captureIdle (if 1 ≤ s.idx.toNat then swap s else s)) with baseValid := true } := by
  have hlong : longGap s = true := by
    have hdue := (timeoutDue_iff.1 hd).2
    exact longGap_iff.2 (by omega)
  cases h
  case off hoff => cases hen.symm.trans hoff
  case quiet | timeoutDeliver | timeoutEmpty => exact absurd ‹irIn = s.prevIr› he
  case append hshort _ | discard hshort _ => cases hlong.symm.trans hshort
  case baseline hb =>
    have hzero := hidx hb
    rw [if_neg (by simp [hzero])]
    simp [edgeBookkeeping, captureIdle, hzero]
  case boundaryDeliver hb _ hi =>
    rw [if_pos hi]
    simp [edgeBookkeeping, captureIdle, clearIdx, swap, hb]
  case boundaryEmpty hb _ hi =>
    rw [if_neg (by omega)]
    simp [edgeBookkeeping, captureIdle, clearIdx, hb]

/-- Settles O37: the edge's operation leaves a baseline on the state that the timeout's leaves (`CaptureStep.of_timeout`,
`CaptureStep.of_edge_when_due`), and at most one swap is in it. -/
theorem edgeEqualsTimeoutThenBaseline : Obligations.EdgeEqualsTimeoutThenBaseline := by
  intro irIn s hen he hd hidx
  obtain ⟨v, hv, edge⟩ := exec_capOp irIn s
  obtain ⟨u, hu, timeout⟩ := exec_capOp s.prevIr s
  obtain rfl := edge.of_edge_when_due hen he hd hidx
  obtain rfl := timeout.of_timeout hen hd
  refine ⟨_, _, _, _, decode_captureVector irIn s, decode_captureVector s.prevIr s, hv, hu, rfl, rfl, rfl, ?_, rfl, ?_⟩
  · simp [apply_ite State.now]
  · simp [apply_ite State.active]

/-! ## The sampling of ir_in (R120) -/

/-- The sensor and the end phase leave PREV_IR as the capture phase sampled it. -/
theorem step_prevIr {s t : State} (hr : (tickInput s).rst = false) (h : step s = .next t) :
    t.prevIr = (tickInput s).irIn := by
  rcases tick_next h with ⟨hrst, _⟩ | ⟨_, _, s1, s2, u, s4, _, _, _, _, _, _, hs, rfl⟩
  · cases hr.symm.trans hrst
  · rw [endPhase_prevIr, hs.frame, sampleIr_prevIr]

/-- Settles O38: EDGE is bit 1 of the vector (`vec7_bits`). -/
theorem inputSampledEveryTick : Obligations.InputSampledEveryTick := by
  refine ⟨fun irIn s => ?_, fun s t hr h => step_prevIr hr h⟩
  obtain ⟨_, edge, _⟩ := vec7_bits s.ctrl.irEn (irIn != s.prevIr) s.baseValid (longGap s)
    (decide (s.idx.toNat < s.cfg.cap)) (timeoutDue s) (decide (1 ≤ s.idx.toNat))
  exact edge.trans (by simp [bne, beq_eq_decide])

/-! ## The operations without a choice (R124 to R130, R132) -/

/-- Settles O34: each operation computes to the state of its pseudocode. -/
theorem captureWithoutDelivery : Obligations.CaptureWithoutDelivery :=
  fun _ => ⟨rfl, rfl, rfl, rfl, rfl, rfl⟩

/-- Settles O35: `swap` before the burst's reset, and after the bookkeeping where an edge delivers. -/
theorem captureDelivery : Obligations.CaptureDelivery :=
  fun _ => ⟨rfl, rfl⟩

end Sys2Proof.Machine

/-! Proofs of 41_decoder.md: the tolerance windows (R151, R152), what DEC_NEC makes of the samples (R156 to R158, R162, R163,
R165), the publication and its flags (R159, R160), the other three operations (R153 to R155), and BUTTON_MAP (R161). -/

namespace Sys2Proof.Machine

/-! ## The tolerance windows (R151, R152) -/

theorem natCast_absDiff (a b : Nat) : (absDiff a b : Int) = |(a : Int) - b| := by
  unfold absDiff
  split
  next hle => rw [abs_of_nonpos (by omega)]; omega
  next hlt => rw [abs_of_nonneg (by omega)]; omega

/-- The tolerance of 30 % as an interval, both ends in it. -/
theorem toleranceMatch_iff_between {m : Sample} {t : Nat} :
    toleranceMatch m t = true ↔ 70 * t ≤ 100 * m.toNat ∧ 100 * m.toNat ≤ 130 * t := by
  rw [toleranceMatch_iff, absDiff]
  split <;> omega

theorem matches_startMark {m : Sample} : toleranceMatch m 9000 = true ↔ 6300 ≤ m.toNat ∧ m.toNat ≤ 11700 := by
  rw [toleranceMatch_iff_between]; omega

theorem matches_startSpace {m : Sample} : toleranceMatch m 4500 = true ↔ 3150 ≤ m.toNat ∧ m.toNat ≤ 5850 := by
  rw [toleranceMatch_iff_between]; omega

/-- The window of the bit mark and of the zero space. -/
theorem matches_bitMark {m : Sample} : toleranceMatch m 560 = true ↔ 392 ≤ m.toNat ∧ m.toNat ≤ 728 := by
  rw [toleranceMatch_iff_between]; omega

theorem matches_oneSpace {m : Sample} : toleranceMatch m 1690 = true ↔ 1183 ≤ m.toNat ∧ m.toNat ≤ 2197 := by
  rw [toleranceMatch_iff_between]; omega

/-- Settles O40: the match is an interval (`toleranceMatch_iff_between`), and the two spaces' intervals are apart. -/
theorem toleranceWindows : Obligations.ToleranceWindows := by
  refine ⟨fun m t => ?_, fun m =>
    ⟨matches_startMark, matches_startSpace, matches_bitMark, matches_oneSpace, fun ⟨hzero, hone⟩ => ?_⟩⟩
  · rw [toleranceMatch_iff, ← natCast_absDiff]; omega
  · have := (matches_bitMark.1 hzero).2
    have := (matches_oneSpace.1 hone).1
    omega

theorem goodPair_iff {f : Nat → Sample} {i : Nat} : goodPair f i ↔
    (392 ≤ (f (2 * i + 2)).toNat ∧ (f (2 * i + 2)).toNat ≤ 728) ∧
    ((392 ≤ (f (2 * i + 3)).toNat ∧ (f (2 * i + 3)).toNat ≤ 728) ∨
      (1183 ≤ (f (2 * i + 3)).toNat ∧ (f (2 * i + 3)).toNat ≤ 2197)) := by
  simp only [goodPair, matches_bitMark, matches_oneSpace]

/-! ## The classification, check by check (R156, R158) -/

theorem classifyNec_startMark {f : Nat → Sample} (h : ¬ toleranceMatch (f 0) 9000 = true) :
    classifyNec f = invalid .startMark 0#32 := if_neg h

theorem classifyNec_startSpace {f : Nat → Sample} (h0 : toleranceMatch (f 0) 9000 = true)
    (h1 : ¬ toleranceMatch (f 1) 4500 = true) : classifyNec f = invalid .startSpace 0#32 :=
  (if_pos h0).trans (if_neg h1)

/-- Past the start mark and space, the loop over the bit-pairs decides: a word it gives is checked. -/
theorem classifyNec_of_ok {f : Nat → Sample} {w : Word} (h0 : toleranceMatch (f 0) 9000 = true)
    (h1 : toleranceMatch (f 1) 4500 = true) (h : necPairs f necBits 0 0#32 = .ok w) : classifyNec f = checkWord w := by
  rw [classifyNec, necStartMark, necStartSpace, if_pos h0, if_pos h1, h]

/-- An error of the loop is the reason, without a raw word. -/
theorem classifyNec_of_error {f : Nat → Sample} {r : Reason} (h0 : toleranceMatch (f 0) 9000 = true)
    (h1 : toleranceMatch (f 1) 4500 = true) (h : necPairs f necBits 0 0#32 = .error r) :
    classifyNec f = invalid r 0#32 := by
  rw [classifyNec, necStartMark, necStartSpace, if_pos h0, if_pos h1, h]

theorem classifyNec_badPair {f : Nat → Sample} {i : Nat} (h0 : toleranceMatch (f 0) 9000 = true)
    (h1 : toleranceMatch (f 1) 4500 = true) (hi : i < 32) (hgood : ∀ j, j < i → goodPair f j) (hbad : ¬ goodPair f i) :
    classifyNec f =
      invalid (if toleranceMatch (f (2 * i + 2)) 560 = true then .bitSpace else .bitMark) 0#32 := by
  have hloop := necPairs_bad f necBits 0 i 0#32 hi (fun j _ hj => hgood j (by omega)) (by rwa [Nat.zero_add])
  rw [classifyNec_of_error h0 h1 hloop, Nat.zero_add]

/-- With every pair good, the spaces' bits are the word that is checked, pair `i` its bit `31 - i`. -/
theorem classifyNec_word {f : Nat → Sample} {w : Word} (h0 : toleranceMatch (f 0) 9000 = true)
    (h1 : toleranceMatch (f 1) 4500 = true) (hgood : ∀ i, i < 32 → goodPair f i)
    (hbits : ∀ i, i < 32 → w.getLsbD (31 - i) = toleranceMatch (f (2 * i + 3)) 1690) :
    classifyNec f = checkWord w := by
  obtain ⟨v, hloop, hv, _⟩ := necPairs_ok f necBits 0 0#32 (by decide) fun j _ hj => hgood j (by simpa [necBits] using hj)
  have hvw : v = w := by
    apply BitVec.eq_of_getLsbD_eq
    intro k hk
    have hpair := hv (31 - k) (by simp only [necBits]; omega)
    rw [Nat.zero_add, ← hbits (31 - k) (by omega)] at hpair
    have hbit : 31 - (31 - k) = k := by omega
    simpa only [necBits, Nat.reduceSub, hbit] using hpair
  rw [classifyNec_of_ok h0 h1 hloop, hvw]

theorem checkWord_addrCheck {w : Word} (h : necAddress w ^^^ necAddressInv w ≠ 0xFF#8) :
    checkWord w = invalid .addrCheck w := if_pos h

theorem checkWord_cmdCheck {w : Word} (ha : necAddress w ^^^ necAddressInv w = 0xFF#8)
    (hc : necCommand w ^^^ necCommandInv w ≠ 0xFF#8) : checkWord w = invalid .cmdCheck w :=
  (if_neg (not_not.2 ha)).trans (if_pos hc)

theorem checkWord_data {w : Word} (ha : necAddress w ^^^ necAddressInv w = 0xFF#8)
    (hc : necCommand w ^^^ necCommandInv w = 0xFF#8) :
    checkWord w = ⟨.data, .noReason, necAddress w, necCommand w, w⟩ :=
  (if_neg (not_not.2 ha)).trans (if_neg (not_not.2 hc))

theorem xor_not_eq_ff (a : Byte) : a ^^^ ~~~a = 0xFF#8 := by
  rw [← BitVec.xor_allOnes, ← BitVec.xor_assoc, BitVec.xor_self, BitVec.zero_xor]; rfl

/-- The bytes of a word that is put together from four (R158). -/
theorem necBytes_append (a na c nc : Byte) :
    necAddress (a ++ na ++ c ++ nc) = a ∧ necAddressInv (a ++ na ++ c ++ nc) = na ∧
    necCommand (a ++ na ++ c ++ nc) = c ∧ necCommandInv (a ++ na ++ c ++ nc) = nc := by
  have above {n : Nat} (x : BitVec n) (y : Byte) (k : Nat) : (x ++ y).extractLsb' (k + 8) 8 = x.extractLsb' k 8 :=
    BitVec.extractLsb'_append_eq_of_le (Nat.le_add_left ..)
  exact ⟨(above (a ++ na ++ c) nc 16).trans ((above (a ++ na) c 8).trans BitVec.extractLsb'_append_eq_left),
    (above (a ++ na ++ c) nc 8).trans ((above (a ++ na) c 0).trans BitVec.extractLsb'_append_eq_right),
    (above (a ++ na ++ c) nc 0).trans BitVec.extractLsb'_append_eq_right, BitVec.extractLsb'_append_eq_right⟩

theorem checkWord_frame (a c : Byte) :
    checkWord (a ++ ~~~a ++ c ++ ~~~c) = ⟨.data, .noReason, a, c, a ++ ~~~a ++ c ++ ~~~c⟩ := by
  obtain ⟨ha, hna, hc, hnc⟩ := necBytes_append a (~~~a) c (~~~c)
  rw [checkWord_data (by rw [ha, hna, xor_not_eq_ff]) (by rw [hc, hnc, xor_not_eq_ff]), ha, hc]

/-- DEC_NEC publishes DATA without a reason, or INVALID for another reason than the length. -/
theorem classifyNec_kind (f : Nat → Sample) :
    ((classifyNec f).kind = .data ∨ (classifyNec f).kind = .invalid) ∧ (classifyNec f).reason ≠ .length := by
  rcases classifyNec_cases f with ⟨r, hr, hv⟩ | ⟨w, hv⟩ <;> rw [hv]
  · rcases hr with rfl | rfl | rfl | rfl <;> exact ⟨.inr rfl, nofun⟩
  · unfold checkWord
    split
    · exact ⟨.inr rfl, nofun⟩
    · split
      · exact ⟨.inr rfl, nofun⟩
      · exact ⟨.inl rfl, nofun⟩

/-! ## DEC_NEC (R156) -/

theorem exec_decNec_invalid {s : State} {r : Reason} {raw : Word}
    (h : classifyNec (decodeSample s) = invalid r raw) : exec .decNec s = .next { s with
      decPend := false
      irResult := { kind := .invalid, reason := r, address := 0#8, command := 0#8, button := 0xFF#8 }
      irRaw := raw
      irLen := s.decLen
      status := { s.status with irOvr := s.status.irOvr || s.status.irRdy, irRdy := true } } := by
  rw [exec, execDecNec, h]; rfl

theorem exec_decNec_data {s : State} {a c : Byte} {w : Word}
    (h : classifyNec (decodeSample s) = ⟨.data, .noReason, a, c, w⟩) : exec .decNec s = .next { s with
      decPend := false
      irResult := { kind := .data, reason := .noReason, address := a, command := c, button := buttonMap s.cfg c }
      irRaw := w
      irLen := s.decLen
      status := { s.status with irOvr := s.status.irOvr || s.status.irRdy, irRdy := true } } := by
  rw [exec, execDecNec, h]; rfl

/-- Settles O42: each sample's window makes its check pass, the spaces give the frame's word (`classifyNec_word`), and the
word passes its two checks (`checkWord_frame`). -/
theorem wellFormedFrameDecodesToItsBytes : Obligations.WellFormedFrameDecodesToItsBytes := by
  intro s a c w x hw hx hmark hspace hmarks hspaces
  replace hx : ∀ k, k < 66 → x k = (decodeSample s k).toNat := hx
  have h0 : toleranceMatch (decodeSample s 0) 9000 = true := matches_startMark.2 (hx 0 (by decide) ▸ hmark)
  have h1 : toleranceMatch (decodeSample s 1) 4500 = true := matches_startSpace.2 (hx 1 (by decide) ▸ hspace)
  have hpair (i : Nat) (hi : i < 32) : goodPair (decodeSample s) i ∧
      w.getLsbD (31 - i) = toleranceMatch (decodeSample s (2 * i + 3)) 1690 := by
    have hm := hmarks i hi
    have hs := hspaces i hi
    rw [hx _ (by omega)] at hm
    rw [hx _ (by omega)] at hs
    rw [goodPair_iff, Bool.eq_iff_iff, matches_oneSpace]
    split at hs
    next hone => exact ⟨⟨hm, .inr hs⟩, iff_of_true hone hs⟩
    next hzero => exact ⟨⟨hm, .inl hs⟩, iff_of_false hzero (by omega)⟩
  have hword := classifyNec_word h0 h1 (fun i hi => (hpair i hi).1) (fun i hi => (hpair i hi).2)
  subst hw
  exact exec_decNec_data (hword.trans (checkWord_frame a c))

/-- Settles O43: each case of the statement is one of the classification's, read through the windows. -/
theorem firstFailingCheckDecidesReason : Obligations.FirstFailingCheckDecidesReason := by
  intro s w x pairOk hx hpair hbit reason raw h
  replace hx : ∀ k, k < 66 → x k = (decodeSample s k).toNat := hx
  have h0 : 6300 ≤ x 0 ∧ x 0 ≤ 11700 ↔ toleranceMatch (decodeSample s 0) 9000 = true := by
    rw [hx 0 (by decide), matches_startMark]
  have h1 : 3150 ≤ x 1 ∧ x 1 ≤ 5850 ↔ toleranceMatch (decodeSample s 1) 4500 = true := by
    rw [hx 1 (by decide), matches_startSpace]
  have hmark (i : Nat) (hi : i < 32) :
      392 ≤ x (2 * i + 2) ∧ x (2 * i + 2) ≤ 728 ↔ toleranceMatch (decodeSample s (2 * i + 2)) 560 = true := by
    rw [hx _ (by omega), matches_bitMark]
  have hgood (i : Nat) (hi : i < 32) : pairOk i ↔ goodPair (decodeSample s) i := by
    rw [hpair i hi, goodPair_iff, hx (2 * i + 2) (by omega), hx (2 * i + 3) (by omega)]
  apply exec_decNec_invalid
  rcases h with ⟨rfl, rfl, hstart⟩ | ⟨rfl, rfl, hstart, hspace⟩ | ⟨hstart, hspace, hpairs⟩
  · exact classifyNec_startMark (mt h0.2 hstart)
  · exact classifyNec_startSpace (h0.1 hstart) (mt h1.2 hspace)
  have hfirst (i : Nat) (hi : i < 32) (hbefore : ∀ j, j < i → pairOk j) (hbad : ¬ pairOk i) :=
    classifyNec_badPair (h0.1 hstart) (h1.1 hspace) hi (fun j hj => (hgood j (by omega)).1 (hbefore j hj))
      (mt (hgood i hi).2 hbad)
  rcases hpairs with ⟨i, hi, hbefore, rfl, rfl, hm⟩ | ⟨i, hi, hbefore, rfl, rfl, hm, hbad⟩ | ⟨hall, rfl, hcheck⟩
  · rw [hfirst i hi hbefore fun hp => hm ((hpair i hi).1 hp).1, if_neg (mt (hmark i hi).2 hm)]
  · rw [hfirst i hi hbefore hbad, if_pos ((hmark i hi).1 hm)]
  · have hbits (i : Nat) (hi : i < 32) :
        raw.getLsbD (31 - i) = toleranceMatch (decodeSample s (2 * i + 3)) 1690 := by
      have := (hpair i hi).1 (hall i hi)
      rw [Bool.eq_iff_iff, hbit i hi, matches_oneSpace, ← hx _ (by omega)]
      omega
    rw [classifyNec_word (h0.1 hstart) (h1.1 hspace) (fun i hi => (hgood i hi).1 (hall i hi)) hbits]
    rcases hcheck with ⟨rfl, ha⟩ | ⟨rfl, ha, hc⟩
    · exact checkWord_addrCheck ha
    · exact checkWord_cmdCheck ha hc

/-! ## Which entries of BUF DEC_NEC reads (R162, R163) -/

theorem classifyNec_congr {f g : Nat → Sample} (h : ∀ k, k < 66 → f k = g k) : classifyNec f = classifyNec g := by
  rw [classifyNec, classifyNec, h 0 (by decide), h 1 (by decide), necPairs_congr f g necBits 0 0#32 h]

/-- The loop gives a word only when each of its pairs is good. -/
theorem goodPair_of_necPairs_ok {f : Nat → Sample} {n : Nat} {v w : Word} (h : necPairs f n 0 w = .ok v) :
    ∀ i, i < n → goodPair f i := by
  intro i
  induction i using Nat.strong_induction_on with
  | _ i ih =>
    intro hi
    by_contra hbad
    have herror := necPairs_bad f n 0 i w hi (fun j _ hj => ih j (by omega) (by omega)) (by rwa [Nat.zero_add])
    cases h.symm.trans herror

/-- No sample of a frame that gives DATA is above the widest window. -/
theorem sample_le_of_data {f : Nat → Sample} (h : (classifyNec f).kind = .data) {k : Nat} (hk : k < 66) :
    (f k).toNat ≤ 11700 := by
  by_cases h0 : toleranceMatch (f 0) 9000 = true
  case neg => rw [classifyNec_startMark h0] at h; cases h
  by_cases h1 : toleranceMatch (f 1) 4500 = true
  case neg => rw [classifyNec_startSpace h0 h1] at h; cases h
  cases hloop : necPairs f necBits 0 0#32 with
  | error r => rw [classifyNec_of_error h0 h1 hloop] at h; cases h
  | ok w =>
    rw [matches_startMark] at h0
    rw [matches_startSpace] at h1
    have hpair (i : Nat) (hi : i < 32) := goodPair_iff.1 (goodPair_of_necPairs_ok hloop i hi)
    obtain rfl | rfl | ⟨i, rfl | rfl⟩ : k = 0 ∨ k = 1 ∨ ∃ i, k = 2 * i + 2 ∨ k = 2 * i + 3 := by
      rcases k with _ | _ | k
      · exact .inl rfl
      · exact .inr (.inl rfl)
      · exact .inr (.inr ⟨k / 2, by omega⟩)
    · exact h0.2
    · omega
    · have := hpair i (by omega); omega
    · have := hpair i (by omega); omega

/-- Settles O44: the loop reads its own pairs' samples only (`classifyNec_congr`), and 15000 is no sample of a frame that gives
DATA (`sample_le_of_data`). -/
theorem necReadsOnlyTheFirst66Samples : Obligations.NecReadsOnlyTheFirst66Samples := by
  refine ⟨fun s m d hread => ?_, fun s t k hk _ _ => ?_⟩
  · have hsame : classifyNec (decodeSample { s with buf := m, bufDraw := d }) = classifyNec (decodeSample s) :=
      classifyNec_congr hread
    refine ⟨_, rfl, ?_⟩
    rw [exec, execDecNec, hsame]; rfl
  · have hread : decodeSample { s with buf := memInsert s.buf (bufKey (!s.active) k) 15000#16 } k = 15000#16 :=
      (memLookup_memInsert ..).trans (if_pos rfl)
    refine ⟨_, rfl, (classifyNec_kind _).1.resolve_left fun hdata => ?_, rfl⟩
    have hle := sample_le_of_data hdata hk
    rw [hread] at hle
    exact absurd hle (by decide)

/-! ## Publication and flags over a tick (R159, R160) -/

/-- A write of STATUS clears the flags it names, and no other request touches IR_RDY or IR_OVR (43_host_bus.md R236). -/
theorem BusStep.irFlags {s t : State} {b : Option BusRequest} (h : BusStep s b t) :
    t.status.irRdy = (s.status.irRdy && !(w1cMask b).getLsbD 0) ∧
    t.status.irOvr = (s.status.irOvr && !(w1cMask b).getLsbD 1) := by
  cases h
  case status hs ho hw => simp [w1cMask, hs, ho, hw, flagW1c]
  case idle => simp [w1cMask]
  case read hs ha hw => simp [w1cMask, hw]
  case ctrl hs ho hw | cmdNop hs ho hw _ => simp [w1cMask, ho]
  case cmdStart hs ho hw _ =>
    by_cases hi : s.snsState = .idle <;> simp [w1cMask, ho, startSensor, hi, flagStarted, flagCmdErr]
  case cmdRsvd hs ho hw _ => simp [w1cMask, ho, flagCmdErr]
  case other hs ha hw ho => simp [w1cMask, ho]

/-- A pending decode is what publishes: it sets IR_RDY, and IR_OVR where IR_RDY was still set. -/
theorem DecoderStep.irFlags {s t : State} {i : Instr} (h : DecoderStep s i t) :
    t.status.irOvr = (s.status.irOvr || (s.decPend && s.status.irRdy)) ∧
    t.status.irRdy = (s.status.irRdy || s.decPend) := by
  cases h <;> simp [*, flagPublish]

/-- What a tick that is not a reset tick does to the decoder's elements: the bus phase may clear flags, the decoder phase
follows, and what it leaves stays. -/
theorem step_decoder {s t : State} (hr : (tickInput s).rst = false) (h : step s = .next t) :
    ∃ s1 i s2, BusStep (takeInput s) (tickInput s).bus s1 ∧ DecoderStep s1 i s2 ∧ SameResult s2 t ∧
      t.status.irRdy = s2.status.irRdy ∧ t.status.irOvr = s2.status.irOvr := by
  rcases tick_next h with ⟨hrst, _⟩ | ⟨_, _, s1, s2, u, v, i, _, _, hb, hd, hc, hs, rfl⟩
  · rw [hr] at hrst; cases hrst
  · refine ⟨s1, i, s2, hb, hd, ?_, ?_, ?_⟩
    · rw [hs.frame, hc.frame]; constructor <;> rfl
    · rw [hs.frame, hc.frame]; rfl
    · rw [hs.frame, hc.frame]; rfl

/-- Settles O30: the bus phase's clears (`BusStep.irFlags`), then the decoder phase's publication
(`DecoderStep.irFlags`). -/
theorem overrunAndReadyFlags : Obligations.OverrunAndReadyFlags := by
  intro s t hr h
  obtain ⟨s1, i, s2, hb, hd, _, hrdy, hovr⟩ := step_decoder hr h
  obtain ⟨hrdy1, hovr1⟩ := hb.irFlags
  obtain ⟨hovr2, hrdy2⟩ := hd.irFlags
  have hpend : s1.decPend = s.decPend := by rw [hb.frame]; simp
  rw [takeInput_status] at hrdy1 hovr1
  rw [hovr, hrdy, hovr2, hrdy2, hpend, hrdy1, hovr1]
  exact ⟨rfl, rfl⟩

/-- The result's kind follows from the length of the burst (R154 to R156). -/
structure ResultOfLength (len : BitVec 16) (r : IrResult) : Prop where
  short  : 0 < len.toNat ∧ len.toNat < 10 → r.kind = .repeatCode
  badlen : len.toNat = 0 ∨ 10 ≤ len.toNat ∧ len.toNat ≤ 50 → r.kind = .invalid ∧ r.reason = .length
  frame  : 50 < len.toNat → (r.kind = .data ∨ r.kind = .invalid) ∧ r.reason ≠ .length

theorem DecoderStep.published {s t : State} {i : Instr} (h : DecoderStep s i t) (hp : s.decPend = true) :
    t.irLen = s.decLen ∧ ResultOfLength s.decLen t.irResult := by
  cases h
  case idle hidle => cases hp.symm.trans hidle
  case repeatCode => exact ⟨rfl, fun _ => rfl, by omega, by omega⟩
  case badlen => exact ⟨rfl, by omega, fun _ => ⟨rfl, rfl⟩, by omega⟩
  case nec => exact ⟨rfl, by omega, by omega, fun _ => classifyNec_kind _⟩

theorem DecoderStep.eq_of_idle {s t : State} {i : Instr} (h : DecoderStep s i t) (hp : s.decPend = false) : t = s := by
  cases h
  case idle => rfl
  all_goals cases hp.symm.trans ‹s.decPend = true›

/-- Settles O45: the decoder phase meets the DEC_PEND and DEC_LEN of the tick's start, which no request writes, and publishes
by the length (`DecoderStep.published`) or leaves the registers alone (`DecoderStep.eq_of_idle`). -/
theorem pendingBurstIsPublishedInTheNextTick : Obligations.PendingBurstIsPublishedInTheNextTick := by
  intro s t hr h
  obtain ⟨s1, i, s2, hb, hd, hkept, hrdy, _⟩ := step_decoder hr h
  have hpend : s1.decPend = s.decPend := by rw [hb.frame]; simp
  have hlen : s1.decLen = s.decLen := by rw [hb.frame]; simp
  refine ⟨fun hp => ?_, fun hp => ?_⟩
  · rw [← hpend] at hp
    obtain ⟨hirLen, hshort, hbadlen, hframe⟩ := hd.published hp
    rw [hlen] at hirLen hshort hbadlen hframe
    rw [hrdy, hd.irFlags.2, hp, Bool.or_true, hkept.irLen, hkept.irResult]
    exact ⟨rfl, hirLen, hshort, hbadlen, hframe⟩
  · have hsame : s2 = s1 := hd.eq_of_idle (hpend.trans hp)
    rw [hkept.irResult, hkept.irRaw, hkept.irLen, hsame, hb.frame]
    simp

/-! ## The operations without samples (R153 to R155) -/

/-- Settles O41: each operation computes to the state of its pseudocode. -/
theorem idleRepeatAndBadLength : Obligations.IdleRepeatAndBadLength :=
  fun _ => ⟨rfl, rfl, rfl⟩

/-! ## BUTTON_MAP (R161) -/

/-- What the lookup gives is an entry of the table for the command, or the command has none. -/
theorem buttonMap_cases (c : Config) (command : Byte) :
    (command, buttonMap c command) ∈ c.buttons ∨
    (∀ e ∈ c.buttons, e.1 ≠ command) ∧ buttonMap c command = 0xFF#8 := by
  unfold buttonMap
  split
  next e he =>
    have hcmd : e.1 = command := by simpa using List.find?_some he
    exact .inl (hcmd ▸ List.mem_of_find?_eq_some he)
  next hnone =>
    exact .inr ⟨fun e he hcmd => List.find?_eq_none.1 hnone e he (by simp [hcmd]), rfl⟩

/-- No entry of the table is UnknownOrError (00_scope.md R7). -/
theorem button_ne_unknown {c : Config} {e : Byte × Byte} (h : e ∈ c.buttons) : e.2 ≠ 0xFF#8 := by
  simpa using List.all_eq_true.1 c.buttons_mapped e h

/-- Settles O46: the two cases of the lookup (`buttonMap_cases`) are the statement's. -/
theorem buttonMapGivesTableEntry : Obligations.ButtonMapGivesTableEntry := by
  intro c command
  rcases buttonMap_cases c command with hentry | ⟨hnone, hff⟩
  · exact ⟨fun _ => ⟨hentry, button_ne_unknown hentry⟩, fun hnone => absurd rfl (hnone _ hentry)⟩
  · exact ⟨fun ⟨e, he, hcmd⟩ => absurd hcmd (hnone e he), fun _ => hff⟩

end Sys2Proof.Machine

/-! Proofs of 42_sensor.md: what the operations leave (R186 to R207), the line (R181), the checksum (R185), a read that no
request changes (R211), how long a read takes (R208), and the host's reading (R212). -/

namespace Sys2Proof.Machine

/-! ## What the operations leave (R186 to R207) -/

/-- Settles O47: each operation is `driveLine`, and but for SNS_IDLE then `stay`. -/
theorem sensorWaitsCountTicks : Obligations.SensorWaitsCountTicks := by
  intro s
  refine ⟨rfl, fun i hi => ?_⟩
  simp only [List.mem_cons, List.not_mem_nil, or_false] at hi
  rcases hi with rfl | rfl | rfl | rfl | rfl | rfl | rfl <;> rfl

/-- Settles O48: each operation is `driveLine`, then `moveTo` its next state. -/
theorem sensorMovesToNextState : Obligations.SensorMovesToNextState := by
  intro s m hm
  simp only [List.mem_cons, List.not_mem_nil, or_false] at hm
  rcases hm with rfl | rfl | rfl | rfl | rfl | rfl <;> rfl

/-- Settles O49: each operation is `driveLine`, then `finish` with its code. -/
theorem sensorFailuresFinishWithTheirCode : Obligations.SensorFailuresFinishWithTheirCode := by
  intro s m hm
  simp only [List.mem_cons, List.not_mem_nil, or_false] at hm
  rcases hm with rfl | rfl | rfl | rfl | rfl <;> rfl

/-- Settles O50: the bytes are those of `shift` with the bit value of R203, byte by byte by `shiftPayload_toNat`. -/
theorem measuredBitIsShiftedIn : Obligations.MeasuredBitIsShiftedIn := by
  intro s b _ hb
  have hbit : b = (bitValue s).toNat := hb.trans (Bool.cond_decide ..).symm
  refine ⟨shiftedPayload s.payload s.snsNbits (bitValue s), fun k hk => ?_, rfl, rfl, rfl⟩
  rw [shiftedPayload, shiftPayload_toNat, hbit]

/-! ## The line (R181) -/

theorem andThen_congr {o : Answer} {f g : State → Answer} (h : ∀ t, o = .next t → f t = g t) :
    andThen o f = andThen o g := by
  cases o with
  | next t => exact h t rfl
  | fault r => rfl
  | refused r => rfl

/-- The states in which dq_in is ignored. -/
def lineIgnored (st : SnsState) : Prop := st = .idle ∨ st = .startLow ∨ st = .release

theorem sensorPhase_of_lineIgnored {s : State} (h : lineIgnored s.snsState) (d d' : Bool) :
    sensorPhase d s = sensorPhase d' s := by
  have hop : snsOp d s = snsOp d' s := by
    rcases h with h | h | h <;> simp only [snsOp, snsSelect, h]
  rw [sensorPhase_eq, sensorPhase_eq, hop]

theorem BusStep.lineIgnored {s t : State} {b : Option BusRequest} (hb : BusStep s b t) (h : lineIgnored s.snsState) :
    lineIgnored t.snsState := by
  rcases hb.reader with ⟨_, hidle, rfl⟩ | ⟨_, hst, _⟩
  · exact .inr (.inl (by simp [startSensor, hidle]))
  · rwa [hst]

theorem tick_of_lineIgnored {s : State} (h : lineIgnored s.snsState) (inp : TickInput) (d : Bool) :
    tick { inp with dqIn := d } s = tick inp s := by
  unfold tick
  split
  · rfl
  · refine andThen_congr fun s1 h1 => andThen_congr fun s2 h2 => andThen_congr fun s3 h3 => ?_
    obtain ⟨u, hc, rfl⟩ := capturePhase_next h3
    have hbus := (busPhase_next h1).2.lineIgnored h
    have hkept := (decoderPhase_next h2).sameSensor.trans hc.sameSensor
    exact congrArg (andThen · _) (sensorPhase_of_lineIgnored (by rwa [hkept.snsState]) _ _)

/-- The reader is in START_LOW after the bus phase when it was before, or when the bus phase starts it. -/
theorem BusStep.startLow_iff {s t : State} {b : Option BusRequest} (h : BusStep s b t) :
    t.snsState = .startLow ↔ s.snsState = .startLow ∨ (s.snsState = .idle ∧ isSnsStart b = true) := by
  rcases h.reader with ⟨hstart, hidle, rfl⟩ | ⟨hno, hst, _⟩
  · simp [startSensor, hidle, hstart]
  · rw [hst]
    exact ⟨.inl, fun h => h.elim id fun ⟨hidle, hstart⟩ => absurd ⟨hstart, hidle⟩ hno⟩

/-- dq_oe after a tick (R181). -/
theorem step_dqOe {s t : State} (hr : (tickInput s).rst = false) (h : step s = .next t) :
    t.dqOe = true ↔ s.snsState = .startLow ∨ (s.snsState = .idle ∧ isSnsStart (tickInput s).bus = true) := by
  obtain ⟨s1, s3, i, s4, hb, k, hs, rfl⟩ := step_sensor hr h
  have hline := hb.startLow_iff
  rw [takeInput_snsState] at hline
  rw [endPhase_dqOe, hs.frame, ← hline, ← k.snsState]
  exact beq_iff_eq

/-- Settles O51: dq_oe by `step_dqOe`, dq_in by `tick_of_lineIgnored`. -/
theorem lineDrivenOnlyInStartLow : Obligations.LineDrivenOnlyInStartLow :=
  ⟨fun _ _ hr h => step_dqOe hr h, fun _ inp d h => tick_of_lineIgnored h inp d⟩

/-! ## The checksum (R185) -/

theorem xor_bit_ne (x : Byte) {k : Nat} (hk : k < 8) : x ^^^ (1#8 <<< k) ≠ x := by
  intro h
  have hbit : (x ^^^ (1#8 <<< k)).getLsbD k = x.getLsbD k := by rw [h]
  simp [hk] at hbit

/-- The checksum of two payloads that differ in one byte holds of one of them at most. -/
theorem checksumHolds_of_one_byte_changed {p q : Vector Byte 5} {j : Nat} (hj : j < 5)
    (hp : checksumHolds p = true) (hne : q[j] ≠ p[j]) (hsame : ∀ (i : Nat) (_ : i < 5), i ≠ j → q[i] = p[i]) :
    checksumHolds q = false := by
  have hne' : (q[j]).toNat ≠ (p[j]).toNat := mt BitVec.eq_of_toNat_eq hne
  have hsame' (i : Nat) (hi : i < 5) (hij : i ≠ j) : (q[i]).toNat = (p[i]).toNat := by rw [hsame i hi hij]
  rw [checksumHolds_eq, decide_eq_true_iff] at hp
  rw [checksumHolds_eq, decide_eq_false_iff_not]
  have h0 := hsame' 0 (by decide)
  have h1 := hsame' 1 (by decide)
  have h2 := hsame' 2 (by decide)
  have h3 := hsame' 3 (by decide)
  have h4 := hsame' 4 (by decide)
  interval_cases j <;> omega

/-- Settles O52: a flipped bit changes its byte (`xor_bit_ne`) and no other. -/
theorem singleBitFlipBreaksChecksum : Obligations.SingleBitFlipBreaksChecksum := by
  intro p q j k hj hk hsum hflip
  have hp : checksumHolds p = true := by rw [checksumHolds_eq, hsum]; exact decide_eq_true rfl
  refine ⟨hp, checksumHolds_of_one_byte_changed hj hp ?_ fun i hi hij => (hflip i hi).trans (if_neg hij)⟩
  rw [hflip j hj, if_pos rfl]
  exact xor_bit_ne _ hk

/-! ## A read that no request changes (R211) -/

/-- What the sensor phase reads and writes of the state, but for dq_oe and SNS_DONE. -/
structure Reader where
  cfg     : Config
  state   : SnsState
  count   : BitVec 15
  nbits   : BitVec 6
  payload : Vector Byte 5
  code    : SnsCode

def readerOf (s : State) : Reader := ⟨s.cfg, s.snsState, s.snsCnt, s.snsNbits, s.payload, s.snsCode⟩

theorem readerOf_eq_iff {s t : State} : readerOf t = readerOf s ↔ t.cfg = s.cfg ∧ t.snsState = s.snsState ∧
    t.snsCnt = s.snsCnt ∧ t.snsNbits = s.snsNbits ∧ t.payload = s.payload ∧ t.snsCode = s.snsCode := by
  simp [readerOf]

theorem SameSensor.readerOf_eq {s t : State} (h : SameSensor s t) : readerOf t = readerOf s :=
  readerOf_eq_iff.2 ⟨h.cfg, h.snsState, h.snsCnt, h.snsNbits, h.payload, h.snsCode⟩

/-- The bus phase leaves a read in progress alone, whatever the request is. -/
theorem BusStep.readerOf_eq {s t : State} {b : Option BusRequest} (h : BusStep s b t) (hbusy : s.snsState ≠ .idle) :
    readerOf t = readerOf s := by
  rcases h.reader with ⟨_, hidle, _⟩ | ⟨_, hst, hcnt, hn, hp, hc⟩
  · exact absurd hidle hbusy
  · exact readerOf_eq_iff.2 ⟨h.sameCapture.cfg, hst, hcnt, hn, hp, hc⟩

theorem bitValue_congr {s s' : State} (h : s'.snsCnt = s.snsCnt) : bitValue s' = bitValue s := by
  rw [bitValue, elapsed, h]; rfl

/-- What the sensor phase makes of the reader, and dq_oe, depend on the reader and the line alone. -/
theorem sensorPhase_readerOf {d : Bool} {s s' t t' : State} (hr : readerOf s' = readerOf s)
    (h : sensorPhase d s = .next t) (h' : sensorPhase d s' = .next t') : readerOf t' = readerOf t ∧ t'.dqOe = t.dqOe := by
  obtain ⟨hcfg, hst, hcnt, hn, hp, hc⟩ := readerOf_eq_iff.1 hr
  have hstep := sensorPhase_next h
  rw [sensorPhase_eq, snsOp_congr d hst hcnt hn hp hcfg] at h'
  generalize snsOp d s = i at hstep h'
  have hbit := bitValue_congr hcnt
  cases hstep <;> obtain rfl := next_inj.1 h' <;>
    simp [readerOf, stay, moveTo, finish, shiftBit, driveLine, elapsed, hcfg, hst, hcnt, hn, hp, hc, hbit]

/-- A tick that is not a reset tick, seen from the sensor path: the bus phase, then the sensor phase on what the bus phase
left of it. -/
theorem tick_sensor {inp : TickInput} {s t : State} (hr : inp.rst = false) (h : tick inp s = .next t) :
    ∃ s1 s3 s4, BusStep s inp.bus s1 ∧ SameSensor s1 s3 ∧ sensorPhase inp.dqIn s3 = .next s4 ∧ t = endPhase s4 := by
  obtain ⟨s1, s2, s3, s4, hbus, hdec, hcap, hsns, rfl⟩ := tick_phases hr h
  rw [← busPhase_eq] at hbus
  rw [← decoderPhase_eq] at hdec
  rw [← sensorPhase_eq] at hsns
  obtain ⟨u, hu, hc⟩ := exec_capOp inp.irIn s2
  obtain rfl := next_inj.1 (hu.symm.trans hcap)
  exact ⟨s1, _, s4, (busPhase_next hbus).2, (decoderPhase_next hdec).sameSensor.trans hc.sameSensor, hsns, rfl⟩

/-- Settles O54: the bus phase leaves the busy reader alone under either request, and the sensor phase goes on from it. -/
theorem readCannotBeCancelled : Obligations.ReadCannotBeCancelled := by
  intro s t u inp b hbusy hrst ht hu
  obtain ⟨s1, s3, s4, hb, k, hs, rfl⟩ := tick_sensor hrst ht
  obtain ⟨s1', s3', s4', hb', k', hs', rfl⟩ := tick_sensor (inp := { inp with bus := b }) hrst hu
  have hsame : readerOf s3' = readerOf s3 := by
    rw [k'.readerOf_eq, k.readerOf_eq, hb'.readerOf_eq hbusy, hb.readerOf_eq hbusy]
  obtain ⟨hreader, hline⟩ := sensorPhase_readerOf hsame hs hs'
  obtain ⟨_, hst, hcnt, hn, hp, hc⟩ := readerOf_eq_iff.1 hreader
  exact ⟨hst, hcnt, hn, hp, hc, hline⟩

/-! ## How long a read takes (R208)

A state is entered in a window of ticks that depends on the bits received, and SNS_CNT counts from the entry. Each wait lasts
at least one tick and at most its limit; so the windows follow from each other, and the limits bound the whole read. -/

/-- The earliest tick, counted from the SNS_START, that ends with the reader in a state and SNS_CNT = 0, at `b` bits. -/
def firstEntry (tRel b : Nat) : SnsState → Nat
  | .idle | .startLow => 0
  | .release => 18000
  | .respLow => 18000 + tRel
  | .respHigh => 18000 + tRel + 1
  | .dataLow => 18000 + tRel + 2
  | .bitHigh => 18000 + tRel + 3 + 2 * b
  | .bitMeasure => 18000 + tRel + 4 + 2 * b

/-- The latest such tick. -/
def lastEntry (tRel b : Nat) : SnsState → Nat
  | .idle | .startLow => 0
  | .release => 18000
  | .respLow => 18000 + tRel
  | .respHigh => 18000 + tRel + 100
  | .dataLow => 18000 + tRel + 200
  | .bitHigh => 18000 + tRel + 300 + 190 * b
  | .bitMeasure => 18000 + tRel + 370 + 190 * b

/-- The reader entered its state within the window, if `n` ticks have passed since the SNS_START. -/
def InWindow (n : Nat) (s : State) : Prop :=
  firstEntry s.cfg.tRel s.snsNbits.toNat s.snsState + s.snsCnt.toNat ≤ n ∧
  n ≤ lastEntry s.cfg.tRel s.snsNbits.toNat s.snsState + s.snsCnt.toNat

/-- A read in progress, `n` ticks after its SNS_START, with the parameters `c`. -/
structure Reading (c : Config) (n : Nat) (s : State) : Prop where
  cfg    : s.cfg = c
  inv    : SensorInv s
  busy   : s.snsState ≠ .idle
  window : InWindow n s

/-- A read that has finished `n` ticks after its SNS_START, and when each code can come. -/
structure FinishedInTime (c : Config) (n : Nat) (s : State) : Prop where
  notBefore      : 18000 + c.tRel + 73 ≤ n
  notAfter       : n ≤ 18000 + c.tRel + 7900
  idle           : s.snsState = .idle
  code           : s.snsCode ≠ .noCode
  done           : s.status.snsDone = true
  early          : n < 18000 + c.tRel + 83 → s.snsCode = .bitStartTimeout
  bitStart       : s.snsCode = .bitStartTimeout → 18000 + c.tRel + 73 + 2 * s.snsNbits.toNat ≤ n
  responseLow    : s.snsCode = .responseLowTimeout → n = 18000 + c.tRel + 100

/-! ### The sensor phase -/

theorem Reading.congr {c : Config} {n : Nat} {s t : State} (h : Reading c n s) (hr : readerOf t = readerOf s) :
    Reading c n t := by
  obtain ⟨hcfg, hst, hcnt, hn, hp, hcode⟩ := readerOf_eq_iff.1 hr
  refine ⟨hcfg.trans h.cfg, h.inv.congr hcfg hst hcnt hn hp hcode, by rw [hst]; exact h.busy, ?_⟩
  rw [InWindow, hcfg, hst, hcnt, hn]
  exact h.window

/-- What a read in progress in a known state says of its next tick and of `e` in it (R182). -/
theorem Reading.at_state {c : Config} {n : Nat} {s : State} (h : Reading c n s) {st : SnsState} (hst : s.snsState = st) :
    firstEntry c.tRel s.snsNbits.toNat st + elapsed s ≤ n + 1 ∧
    n + 1 ≤ lastEntry c.tRel s.snsNbits.toNat st + elapsed s ∧ 1 ≤ elapsed s ∧ elapsed s ≤ snsLimit c st := by
  obtain ⟨hfirst, hlast⟩ := h.window
  have hcount := h.inv.busyCount h.busy
  rw [h.cfg, hst] at hfirst hlast hcount
  exact ⟨Nat.succ_le_succ hfirst, Nat.succ_le_succ hlast, Nat.le_add_left .., hcount⟩

/-- A wait: the count goes on with the tick. -/
theorem Reading.inWindow_stay {c : Config} {n : Nat} {s : State} (h : Reading c n s) :
    InWindow (n + 1) (stay (driveLine s)) := by
  obtain ⟨hfirst, hlast⟩ := h.window
  have hcount := h.inv.busyCount h.busy
  have hlimit := snsLimit_range s.cfg s.snsState h.busy
  have hnext : (stay (driveLine s)).snsCnt.toNat = s.snsCnt.toNat + 1 := by
    rw [stay_snsCnt, BitVec.toNat_ofNat]
    exact Nat.mod_eq_of_lt (by rw [elapsed, driveLine_snsCnt]; omega)
  rw [InWindow, hnext]
  exact ⟨Nat.succ_le_succ hfirst, Nat.succ_le_succ hlast⟩

/-- A move: the count starts anew at an entry within the window. -/
theorem reading_moveTo {c : Config} {n : Nat} {st : SnsState} {s : State} (hcfg : s.cfg = c)
    (hinv : SensorInv (moveTo st s)) (hst : st ≠ .idle)
    (hentry : firstEntry c.tRel s.snsNbits.toNat st ≤ n ∧ n ≤ lastEntry c.tRel s.snsNbits.toNat st) :
    Reading c n (moveTo st s) := by
  subst hcfg
  exact ⟨rfl, hinv, hst, hentry⟩

/-- A finish with a code that says nothing of the time is 83 ticks after the release or later. -/
theorem finishedInTime_of_late {c : Config} {n : Nat} {code : SnsCode} {s : State} (hlo : 18000 + c.tRel + 83 ≤ n)
    (hhi : n ≤ 18000 + c.tRel + 7900)
    (hcode : code ≠ .noCode ∧ code ≠ .bitStartTimeout ∧ code ≠ .responseLowTimeout) :
    FinishedInTime c n (finish code s) where
  notBefore := by omega
  notAfter := hhi
  idle := rfl
  code := hcode.1
  done := rfl
  early h := by omega
  bitStart h := absurd h hcode.2.1
  responseLow h := absurd h hcode.2.2

/-- The sensor phase of a read in progress goes on in its windows or finishes in time. -/
theorem SensorStep.reading {c : Config} {n : Nat} {d : Bool} {s t : State} {i : Instr} (hs : SensorStep d s i t)
    (h : Reading c n s) : Reading c (n + 1) t ∨ FinishedInTime c (n + 1) t := by
  have hinv := hs.sensorInv h.inv
  have hcfg : (driveLine s).cfg = c := h.cfg
  have hspan {st} (hst : s.snsState = st) := h.at_state hst
  simp only [snsLimit, snsStartLowUs, snsRespLowTo, snsRespHighTo, snsDataStartTo, snsBitStartTo, snsBitWidthTo] at hspan
  cases hs
  case idle hst => exact absurd hst h.busy
  case startLowCont | releaseCont | respLowWait | respHighWait | dataLowWait | bitHighWait | measureWait =>
    exact .inl ⟨hcfg, hinv, h.busy, h.inWindow_stay⟩
  case startLowEnd hst he | releaseEnd hst he =>
    have hnow := hspan hst
    exact .inl (reading_moveTo hcfg hinv (by decide) (by
      simp only [firstEntry, lastEntry, ← h.cfg] at hnow ⊢; omega))
  case respLowOk hst _ | respHighOk hst _ | bitHighOk hst _ =>
    have hnow := hspan hst
    exact .inl (reading_moveTo hcfg hinv (by decide) (by
      simp only [firstEntry, lastEntry, driveLine_snsNbits] at hnow ⊢; omega))
  case dataLowOk hst _ =>
    have hnow := hspan hst
    have hnone := h.inv.early (by simp [hst])
    exact .inl (reading_moveTo hcfg hinv (by decide) (by
      simp only [firstEntry, lastEntry, driveLine_snsNbits, hnone] at hnow ⊢; simp; omega))
  case measureBit hst _ _ =>
    have hnow := hspan hst
    have hmore := h.inv.receiving (.inr hst)
    exact .inl (reading_moveTo hcfg hinv (by decide) (by
      simp only [firstEntry, lastEntry, shiftBit_snsNbits, driveLine_snsNbits] at hnow ⊢; bv_omega))
  case respLowFail hst _ he =>
    have hnow := hspan hst
    simp only [firstEntry, lastEntry] at hnow
    exact .inr ⟨by omega, by omega, rfl, by simp, rfl, by omega, by simp, by omega⟩
  case bitHighFail hst _ he =>
    have hnow := hspan hst
    have hmore := h.inv.receiving (.inl hst)
    simp only [firstEntry, lastEntry] at hnow
    exact .inr ⟨by omega, by omega, rfl, by simp, rfl, by simp, fun _ => by simp; omega, by simp⟩
  case respHighFail hst _ he | dataLowFail hst _ he =>
    have hnow := hspan hst
    simp only [firstEntry, lastEntry] at hnow
    exact .inr (finishedInTime_of_late (by omega) (by omega) (by decide))
  case measureFail hst _ he =>
    have hnow := hspan hst
    have hmore := h.inv.receiving (.inr hst)
    simp only [firstEntry, lastEntry] at hnow
    exact .inr (finishedInTime_of_late (by omega) (by omega) (by decide))
  case measureLastOk hst _ hn _ | measureLastBad hst _ hn _ =>
    have hnow := hspan hst
    simp only [firstEntry, lastEntry] at hnow
    exact .inr (finishedInTime_of_late (by omega) (by omega) (by decide))

/-! ### The tick -/

/-- A tick from a read in progress, or one that starts a read (`n = 0`): what counts is the reader after the bus phase. -/
theorem step_reading {c : Config} {n : Nat} {s t : State} (hr : (tickInput s).rst = false) (h : step s = .next t)
    (hbus : ∀ s1, BusStep (takeInput s) (tickInput s).bus s1 → Reading c n s1) :
    Reading c (n + 1) t ∨ FinishedInTime c (n + 1) t := by
  obtain ⟨s1, s3, i, s4, hb, k, hs, rfl⟩ := step_sensor hr h
  rcases hs.reading ((hbus s1 hb).congr k.readerOf_eq) with hread | hfin
  · exact .inl (hread.congr rfl)
  · obtain ⟨hlo, hhi, hidle, hcode, hdone, hearly, hbit, hresp⟩ := hfin
    exact .inr ⟨hlo, hhi, hidle, hcode, hdone, hearly, hbit, hresp⟩

theorem readerOf_takeInput (s : State) : readerOf (takeInput s) = readerOf s := by simp [readerOf]

/-- The tick after `n` ticks of a read. -/
theorem Reading.next_tick {c : Config} {n : Nat} {s t : State} (hread : Reading c n s) (hr : (tickInput s).rst = false)
    (h : step s = .next t) : Reading c (n + 1) t ∨ FinishedInTime c (n + 1) t :=
  step_reading hr h fun _ hb =>
    hread.congr ((hb.readerOf_eq (by simpa using hread.busy)).trans (readerOf_takeInput s))

theorem reading_startSensor {s : State} (hidle : s.snsState = .idle) : Reading s.cfg 0 (startSensor s) := by
  refine ⟨startSensor_cfg s, sensorInv_started hidle, by simp [startSensor, hidle], ?_⟩
  simp [InWindow, startSensor, hidle, firstEntry, lastEntry]

/-- The tick of the SNS_START. -/
theorem step_of_start {s t : State} (hidle : s.snsState = .idle) (hstart : isSnsStart (tickInput s).bus = true)
    (hr : (tickInput s).rst = false) (h : step s = .next t) : Reading s.cfg 1 t ∨ FinishedInTime s.cfg 1 t :=
  step_reading hr h fun s1 hb => by
    rcases hb.reader with ⟨_, hi, rfl⟩ | ⟨hno, _⟩
    · simpa using reading_startSensor (s := noData (takeInput s)) hi
    · exact absurd ⟨hstart, by simpa using hidle⟩ hno

/-! ### The run -/

/-- One step after a run of any machine makes the run one step longer. -/
theorem run_then_step {M : Host.Core} {n : Nat} : ∀ {s u t : M.State}, M.run n s = .next u → M.step u = .next t →
    M.run (n + 1) s = .next t := by
  induction n with
  | zero =>
    intro s u t h ht
    cases h
    rw [Host.Core.run, ht]; rfl
  | succ n ih =>
    intro s u t h ht
    rw [Host.Core.run] at h ⊢
    cases hs : M.step s with
    | next v => rw [hs] at h; exact ih h ht
    | fault r => rw [hs] at h; cases h
    | refused r => rw [hs] at h; cases h

/-- No tick of the list is a reset tick, and each keeps the host's contract. -/
def NoResetInContract (inputs : List TickInput) : Prop := ∀ x ∈ inputs, x.rst = false ∧ requestInContract x.bus = true

theorem step_inputs {s t : State} (hr : (tickInput s).rst = false) (h : step s = .next t) :
    t.inputs = s.inputs.drop 1 := by
  rcases tick_next h with ⟨hrst, _⟩ | ⟨_, _, s1, s2, u, s4, _, _, _, hb, hd, hc, hs, rfl⟩
  · cases hr.symm.trans hrst
  · rw [endPhase_inputs, hs.frame, sampleIr_inputs, hc.frame, hd.frame, hb.frame, takeInput_eq]

/-- A tick whose inputs are listed, no reset and within the contract. -/
theorem step_of_listed {s : State} {x : TickInput} {xs : List TickInput} (hin : s.inputs = x :: xs)
    (hx : x.rst = false ∧ requestInContract x.bus = true) :
    (tickInput s).rst = false ∧ ∃ t, step s = .next t ∧ t.inputs = xs := by
  have htick : tickInput s = x := by rw [tickInput, hin]
  have hr : (tickInput s).rst = false := htick ▸ hx.1
  obtain ⟨t, ht⟩ := step_next_of_inContract (s := s) (by rw [htick, inputInContract, hx.2, Bool.or_true])
  exact ⟨hr, t, ht, by rw [step_inputs hr ht, hin, List.drop_one, List.tail_cons]⟩

theorem run_inputs {s : State} (hk : NoResetInContract s.inputs) : ∀ n, n ≤ s.inputs.length →
    ∃ u : State, core.run n s = .next u ∧ u.inputs = s.inputs.drop n := by
  intro n
  induction n with
  | zero => exact fun _ => ⟨s, rfl, rfl⟩
  | succ n ih =>
    intro hn
    obtain ⟨u, hu, hin⟩ := ih (by omega)
    obtain ⟨_, t, ht, hrest⟩ := step_of_listed (hin.trans (List.drop_eq_getElem_cons hn)) (hk _ (List.getElem_mem hn))
    exact ⟨t, run_then_step (M := core) hu ht, hrest⟩

/-- The tick that follows `n` ticks of a run. -/
theorem run_tick {s : State} (hk : NoResetInContract s.inputs) {n : Nat} (hn : n < s.inputs.length) :
    ∃ u t : State, core.run n s = .next u ∧ core.run (n + 1) s = .next t ∧ step u = .next t ∧
      (tickInput u).rst = false := by
  obtain ⟨u, hu, hin⟩ := run_inputs hk n hn.le
  obtain ⟨hr, t, ht, _⟩ := step_of_listed (hin.trans (List.drop_eq_getElem_cons hn)) (hk _ (List.getElem_mem hn))
  exact ⟨u, t, hu, run_then_step (M := core) hu ht, ht, hr⟩

/-- The run is in a read after each of the ticks 1 to `n - 1`. -/
def ReadingBefore (s : State) (n : Nat) : Prop :=
  ∀ k, 1 ≤ k → k < n → ∃ u : State, core.run k s = .next u ∧ Reading s.cfg k u

/-- A run that starts a read: it is still reading, or finished in time at its first tick with an idle reader. -/
theorem reading_or_finished {s : State} (hidle : s.snsState = .idle) (hk : NoResetInContract s.inputs)
    (hstart : isSnsStart (tickInput s).bus = true) : ∀ n, n ≤ s.inputs.length → ReadingBefore s (n + 1) ∨
      ∃ (m : Nat) (t : State), core.run m s = .next t ∧ FinishedInTime s.cfg m t ∧ m ≤ n ∧ ReadingBefore s m := by
  intro n
  induction n with
  | zero => exact fun _ => .inl fun k h1 hlt => by omega
  | succ n ih =>
    intro hn
    rcases ih (by omega) with hbefore | ⟨m, t, hrun, hfin, hm, hbefore⟩
    · obtain ⟨u, t, hu, hrun, ht, hr⟩ := run_tick hk hn
      have hnext : Reading s.cfg (n + 1) t ∨ FinishedInTime s.cfg (n + 1) t := by
        rcases Nat.eq_zero_or_pos n with rfl | hpos
        · obtain rfl := next_inj.1 hu
          exact step_of_start hidle hstart hr ht
        · obtain ⟨u', hu', hread⟩ := hbefore n hpos n.lt_succ_self
          obtain rfl := next_inj.1 (hu.symm.trans hu')
          exact hread.next_tick hr ht
      rcases hnext with hread | hfin
      · refine .inl fun k h1 hlt => ?_
        rcases Nat.lt_succ_iff_lt_or_eq.1 hlt with hlt' | rfl
        · exact hbefore k h1 hlt'
        · exact ⟨t, hrun, hread⟩
      · exact .inr ⟨n + 1, t, hrun, hfin, le_rfl, hbefore⟩
    · exact .inr ⟨m, t, hrun, hfin, hm.trans n.le_succ, hbefore⟩

/-- A read in progress has not yet used up its limits. -/
theorem Reading.lt_limit {c : Config} {n : Nat} {s : State} (h : Reading c n s) : n < 18000 + c.tRel + 7900 := by
  have hbits := h.inv.receiving
  cases hst : s.snsState
  case idle => exact absurd hst h.busy
  all_goals
    have hnow := h.at_state hst
    simp only [firstEntry, lastEntry, snsLimit, snsStartLowUs, snsRespLowTo, snsRespHighTo, snsDataStartTo, snsBitStartTo,
      snsBitWidthTo] at hnow
    simp [hst] at hbits
    omega

/-- In which state a read is, up to the release's end. -/
theorem Reading.until_release {c : Config} {n : Nat} {s : State} (h : Reading c n s) (hn : n ≤ 18000 + c.tRel) :
    (n < 18000 → s.snsState = .startLow ∧ s.snsCnt.toNat = n) ∧
    (18000 ≤ n ∧ n < 18000 + c.tRel → s.snsState = .release ∧ s.snsCnt.toNat = n - 18000) ∧
    (n = 18000 + c.tRel → s.snsState = .respLow ∧ s.snsCnt = 0#15) := by
  rw [← BitVec.toNat_inj]
  cases hst : s.snsState
  case idle => exact absurd hst h.busy
  all_goals
    have hnow := h.at_state hst
    simp only [firstEntry, lastEntry, snsLimit, snsStartLowUs, elapsed] at hnow
    simp
    omega

theorem Reading.startLow_iff {c : Config} {n : Nat} {s : State} (h : Reading c n s) (hn : n ≤ 18000 + c.tRel) :
    s.snsState = .startLow ↔ n < 18000 := by
  refine ⟨fun hst => ?_, fun hlt => ((h.until_release hn).1 hlt).1⟩
  have hnow := h.at_state hst
  simp only [firstEntry, lastEntry, snsLimit, snsStartLowUs, elapsed] at hnow
  omega

/-- The line after the tick that follows `n` ticks of a read. -/
theorem Reading.dqOe_next_tick {c : Config} {n : Nat} {s t : State} (hread : Reading c n s) (hn : n ≤ 18000 + c.tRel)
    (hr : (tickInput s).rst = false) (h : step s = .next t) : t.dqOe = true ↔ n + 1 ≤ 18000 := by
  rw [step_dqOe hr h, or_iff_left fun hstart => hread.busy hstart.1]
  exact hread.startLow_iff hn

/-- Settles O55: a read cannot finish before the release ends (`FinishedInTime.notBefore`), so the run is reading at `n`, and
its windows are single ticks up to there (`Reading.until_release`); dq_oe follows from the state of the tick before. -/
theorem startConditionTiming : Obligations.StartConditionTiming := by
  intro s inp rest hidle hin hstart hkept n h1 hn hlen
  rw [← hin] at hkept hlen
  have hstart' : isSnsStart (tickInput s).bus = true := by rw [tickInput, hin]; exact hstart
  rcases reading_or_finished hidle hkept hstart' n hlen with hbefore | ⟨m, t, _, hfin, hm, _⟩
  · obtain ⟨t, hrun, hread⟩ := hbefore n h1 n.lt_succ_self
    refine ⟨t, hrun, ?_, hread.until_release hn⟩
    obtain ⟨k, rfl⟩ := Nat.exists_eq_add_of_le' h1
    obtain ⟨u, t', hu, hrun', ht, hr⟩ := run_tick hkept hlen
    obtain rfl := next_inj.1 (hrun.symm.trans hrun')
    rcases Nat.eq_zero_or_pos k with rfl | hpos
    · obtain rfl := next_inj.1 hu
      simp [step_dqOe hr ht, hidle, hstart']
    · obtain ⟨u', hu', hreading⟩ := hbefore k hpos (by omega)
      obtain rfl := next_inj.1 (hu.symm.trans hu')
      exact hreading.dqOe_next_tick (by omega) hr ht
  · have := hfin.notBefore
    omega

/-- Settles O56: a run without a finish would still be reading after 7900 ticks from the release, which the last window
excludes; the finish that `reading_or_finished` gives is the one claimed. -/
theorem everyReadFinishesInTime : Obligations.EveryReadFinishesInTime := by
  intro s inp rest hidle hin hstart hkept hlen
  rw [← hin] at hkept hlen
  have hstart' : isSnsStart (tickInput s).bus = true := by rw [tickInput, hin]; exact hstart
  rcases reading_or_finished hidle hkept hstart' _ hlen with hbefore | ⟨m, t, hrun, hfin, _, hbefore⟩
  · obtain ⟨u, _, hread⟩ := hbefore (18000 + s.cfg.tRel + 7900) (by omega) (Nat.lt_succ_self _)
    have := hread.lt_limit
    omega
  · refine ⟨m, t, hfin.notBefore, hfin.notAfter, hrun, hfin.idle, hfin.code, hfin.done, hfin.early, hfin.bitStart,
      hfin.responseLow, fun k v h1 hlt hv => ?_⟩
    obtain ⟨u, hu, hread⟩ := hbefore k h1 hlt
    obtain rfl := next_inj.1 (hu.symm.trans hv)
    exact ⟨hread.busy, hread.inv.busyCode hread.busy⟩

/-! ## The host's reading (R212) -/

/-- Settles O60: the definitions are R212's formulas; the example is arithmetic. -/
theorem sourceExampleReading : Obligations.SourceExampleReading := by
  refine ⟨?_, ?_, ?_, fun p => ⟨rfl, rfl, rfl⟩⟩ <;> norm_num [humidity, temperatureC, temperatureF]

end Sys2Proof.Machine

/-! Proofs of 43_host_bus.md: what the reads return, bit by bit and field by field (R222 to R231), what the writes leave (R221,
R232 to R238), and the refused accesses (R239). -/

namespace Sys2Proof.Machine

/-! ## The bits of CTRL and STATUS (30_encoding.md R81, R83) -/

theorem ctrlWord_getLsbD (c : Ctrl) (k : Nat) : (ctrlWord c).getLsbD k =
    ((k == 0 && c.irEn) || (k == 1 && c.irqIrEn) || (k == 2 && c.irqSnsEn)) := by
  simp only [ctrlWord, BitVec.append_ofBool]
  match k with
  | 0 | 1 | 2 => simp [BitVec.getElem_concat]
  | k + 3 => simp

theorem statusWord_getLsbD (s : State) (k : Nat) : (statusWord s).getLsbD k =
    ((k == 0 && s.status.irRdy) || (k == 1 && s.status.irOvr) || (k == 2 && s.status.snsDone) ||
     (k == 3 && snsBusy s) || (k == 4 && s.status.cmdErr)) := by
  simp only [statusWord, BitVec.append_ofBool]
  match k with
  | 0 | 1 | 2 | 3 | 4 => simp [BitVec.getElem_concat]
  | k + 5 => simp

/-- Settles O22: each read answers its register's word by definition, whose bits are those of `ctrlWord_getLsbD` and
`statusWord_getLsbD`. -/
theorem controlAndStatusReads : Obligations.ControlAndStatusReads := by
  intro s
  have hbusy : snsBusy s = decide (s.snsState ≠ .idle) := by rw [Bool.eq_iff_iff]; simp [snsBusy]
  refine ⟨ctrlWord s.ctrl, statusWord s, rfl, ctrlWord_getLsbD s.ctrl, rfl, rfl, fun k => ?_⟩
  rw [statusWord_getLsbD, hbusy]

/-! ## The fields of the result registers (R84, R87, R88, R91)

A field is read off a word by dropping the fields below it. -/

theorem irResultWord_fields (r : IrResult) :
    (irResultWord r).extractLsb' 0 2 = irKindCode r.kind ∧ (irResultWord r).extractLsb' 2 2 = 0#2 ∧
    (irResultWord r).extractLsb' 4 4 = reasonCode r.reason ∧ (irResultWord r).extractLsb' 8 8 = r.address ∧
    (irResultWord r).extractLsb' 16 8 = r.command ∧ (irResultWord r).extractLsb' 24 8 = r.button := by
  simp only [irResultWord, BitVec.extractLsb'_append_eq_of_le, BitVec.extractLsb'_append_eq_right,
    BitVec.extractLsb'_eq_self, Nat.reduceLeDiff, Nat.reduceSub, and_self]

theorem snsResultWord_fields (st : SnsState) (nbits : BitVec 6) (code : SnsCode) :
    (snsResultWord st nbits code).extractLsb' 0 4 = snsCodeCode code ∧
    (snsResultWord st nbits code).extractLsb' 4 4 = 0#4 ∧ (snsResultWord st nbits code).extractLsb' 8 6 = nbits ∧
    (snsResultWord st nbits code).extractLsb' 14 2 = 0#2 ∧
    (snsResultWord st nbits code).extractLsb' 16 3 = snsStateCode st ∧
    (snsResultWord st nbits code).extractLsb' 19 13 = 0#13 := by
  simp only [snsResultWord, BitVec.extractLsb'_append_eq_of_le, BitVec.extractLsb'_append_eq_right,
    BitVec.extractLsb'_eq_self, Nat.reduceLeDiff, Nat.reduceSub, and_self]

/-- The bytes of a word that is put together from four, by their place on the bus (20_memory.md R63). -/
theorem busByte_snsData0Word (p : Vector Byte 5) (k : Nat) (hk : k < 4) : busByte (snsData0Word p) k = p[k] := by
  obtain ⟨b3, b2, b1, b0⟩ := necBytes_append p[3] p[2] p[1] p[0]
  match k, hk with
  | 0, _ => exact b0
  | 1, _ => exact b1
  | 2, _ => exact b2
  | 3, _ => exact b3

/-- Settles O23: the words are the registers', the fields those of `irResultWord_fields`; KIND and REASON code by code. -/
theorem irRegisterReads : Obligations.IrRegisterReads := by
  intro s
  obtain ⟨kind, zero, reason, address, command, button⟩ := irResultWord_fields s.irResult
  refine ⟨irResultWord s.irResult, irLenWord s.irLen, rfl, ?_, zero, ?_, address, command, button, rfl, rfl,
    BitVec.extractLsb'_append_eq_right, BitVec.extractLsb'_append_eq_left⟩
  · rw [kind]; cases s.irResult.kind <;> rfl
  · rw [reason]; cases s.irResult.reason <;> rfl

/-- Settles O24: the words are the registers', the fields those of `snsResultWord_fields` and the bytes those of
`busByte_snsData0Word`; CODE and STATE code by code. -/
theorem sensorRegisterReads : Obligations.SensorRegisterReads := by
  intro s
  obtain ⟨code, zero4, nbits, zero14, state, zero19⟩ := snsResultWord_fields s.snsState s.snsNbits s.snsCode
  refine ⟨snsResultWord s.snsState s.snsNbits s.snsCode, snsData0Word s.payload, snsData1Word s.payload,
    rfl, ?_, zero4, nbits, zero14, ?_, zero19, rfl, busByte_snsData0Word s.payload, rfl,
    BitVec.extractLsb'_append_eq_right, BitVec.extractLsb'_append_eq_left, fun _ => rfl⟩
  · rw [code]; cases s.snsCode <;> rfl
  · rw [state]; cases s.snsState <;> rfl

/-! ## The refused accesses (R239) -/

theorem busOp_misaligned {off : Byte} {size : Nat} (h : size ≠ 4 ∨ off.toNat % 4 ≠ 0) (we : Bool) (wdata : Word) :
    busOp (some ⟨off, we, wdata, size⟩) = .busMisaligned off we wdata := by
  rcases h with hsize | halign
  · exact if_neg hsize
  · rw [busOp, decodeFields_misaligned halign, ite_self]

/-- Settles O11: the access selects by `busOp_misaligned`, and the operation has no other answer. -/
theorem misalignedAccessIsRefused : Obligations.MisalignedAccessIsRefused :=
  ⟨fun _ we wdata _ h => (decode_busWordOf _).trans (congrArg _ (busOp_misaligned h we wdata)), fun _ _ _ _ => rfl⟩

/-! ## The writes (R221, R232 to R238) -/

/-- Settles O26: each operation computes to the state of its pseudocode. -/
theorem writesChangeOnlyWhatTheyName : Obligations.WritesChangeOnlyWhatTheyName :=
  fun _ _ _ => ⟨rfl, rfl, rfl, rfl, rfl, rfl⟩

/-- A flag under write-1-to-clear. -/
theorem and_not_eq_ite (flag bit : Bool) : (flag && !bit) = if bit = true then false else flag := by
  cases bit <;> simp

/-- Settles O27: the flags are `flagW1c`, each by `and_not_eq_ite`. -/
theorem statusWriteOneToClear : Obligations.StatusWriteOneToClear :=
  fun s wdata => ⟨flagW1c wdata s.status, rfl, and_not_eq_ite .., and_not_eq_ite .., and_not_eq_ite .., and_not_eq_ite ..⟩

/-- Settles O28: the two cases are those of `startSensor`. -/
theorem sensorStart : Obligations.SensorStart :=
  fun _ _ => ⟨fun hidle => congrArg Host.Outcome.next (if_pos hidle),
    fun hbusy => congrArg Host.Outcome.next (if_neg hbusy)⟩

end Sys2Proof.Machine

/-! Proofs of 60_exceptions.md: what sets CMD_ERR and what drives irq (R254, R255), the two paths' independence (R257, R268),
and the quiet tick (R266). -/

namespace Sys2Proof.Machine

/-! ## The interrupt (R255) -/

/-- After every tick irq is formed of the flags and enables that the tick leaves. -/
theorem tick_irq {inp : TickInput} {s t : State} (h : tick inp s = .next t) : t.irq = irqLine t.status t.ctrl := by
  rcases tick_next h with ⟨_, rfl⟩ | ⟨_, _, s1, s2, s3, s4, _, _, _, _, _, _, _, rfl⟩ <;> rfl

/-- Settles O33: a reset tick leaves flags, enables and irq at 0, the end phase forms irq. -/
theorem interruptIsLevel : Obligations.InterruptIsLevel := fun _ _ h => tick_irq h

/-! ## CMD_ERR (R254) -/

/-- The bus phase clears CMD_ERR by W1C, and sets it for a reserved command and for SNS_START on a busy reader. -/
theorem BusStep.cmdErr {s t : State} {b : Option BusRequest} (h : BusStep s b t) :
    t.status.cmdErr = ((s.status.cmdErr && !(w1cMask b).getLsbD 4) || isReservedCommand b ||
      (isSnsStart b && decide (s.snsState ≠ .idle))) := by
  cases h
  case idle => simp [w1cMask, isReservedCommand, isSnsStart]
  case read hs ha hw => simp [w1cMask, isReservedCommand, isSnsStart, hw]
  case ctrl hs ho hw => simp [w1cMask, isReservedCommand, isSnsStart, ho]
  case cmdNop hs ho hw hc => simp [w1cMask, isReservedCommand, isSnsStart, ho, hc]
  case cmdStart hs ho hw hc =>
    by_cases hi : s.snsState = .idle <;>
      simp [w1cMask, isReservedCommand, isSnsStart, hs, ho, hw, hc, startSensor, hi, flagStarted, flagCmdErr]
  case cmdRsvd hs ho hw hc => simp [w1cMask, isReservedCommand, hs, ho, hw, hc, flagCmdErr]
  case status hs ho hw => simp [w1cMask, isReservedCommand, isSnsStart, hs, ho, hw, flagW1c]
  case other hs ha hw ho => simp [w1cMask, isReservedCommand, isSnsStart, beq_false_of_ne ho.2.1, ho.2.2]

theorem SensorStep.cmdErr {d : Bool} {s t : State} {i : Instr} (h : SensorStep d s i t) :
    t.status.cmdErr = s.status.cmdErr := by
  rw [h.frame]

/-- Settles O32: only the bus phase writes CMD_ERR (`BusStep.cmdErr`), irq is `tick_irq`, and the two erroneous commands are
those of `writesChangeOnlyWhatTheyName` and `sensorStart`. -/
theorem commandErrors : Obligations.CommandErrors := by
  refine ⟨fun s t hr h => ⟨?_, tick_irq h⟩, fun s wdata => ?_, fun s wdata => (sensorStart s wdata).2⟩
  · obtain ⟨s1, s3, i, s4, hb, k, hs, rfl⟩ := step_sensor hr h
    rw [endPhase_status, hs.cmdErr, k.cmdErr, hb.cmdErr, takeInput_status, takeInput_snsState]
  · obtain ⟨_, _, _, hrsvd, _⟩ := writesChangeOnlyWhatTheyName s 0#8 wdata
    exact hrsvd

/-! ## The IR path (R257, R268)

`irPart` blanks what the IR path does not hold. An operation on the blanked state makes the same of the IR path as on the state
itself, and so do two states with one IR part. -/

/-- The state with the sensor path, the outputs and the inputs to come blanked. -/
def irPart (s : State) : State :=
  { s with
    status := { s.status with snsDone := false, cmdErr := false }
    snsCode := .noCode
    snsNbits := 0#6
    snsState := .idle
    payload := Vector.replicate 5 0#8
    snsCnt := 0#15
    dqOe := false
    irq := false
    rdata := none
    inputs := [] }

theorem irPart_eq_iff {s t : State} : irPart t = irPart s ↔ SameIr s t ∧ t.draws = s.draws := by
  constructor
  · intro h
    simp only [irPart, State.mk.injEq, Status.mk.injEq] at h
    exact ⟨by constructor <;> simp [h], by simp [h]⟩
  · rintro ⟨k, hdraws⟩
    simp [irPart, k.cfg, k.ctrl, k.irRdy, k.irOvr, k.irResult, k.irRaw, k.irLen, k.now, k.prevIr, k.last, k.baseValid,
      k.toArmed, k.idx, k.active, k.decLen, k.decPend, k.buf, k.bufDraw, hdraws]

theorem irPart_startSensor (s : State) : irPart (startSensor s) = irPart s := by
  unfold startSensor; split <;> rfl

/-- The decoder reads BUF and ACTIVE, which are the IR path's. -/
theorem decodeSample_irPart (s : State) : decodeSample (irPart s) = decodeSample s := rfl

/-- What an operation makes of the IR path, it makes of the IR part alone. -/
theorem exec_irPart {i : Instr} {s t : State} (h : exec i s = .next t) :
    ∃ u, exec i (irPart s) = .next u ∧ irPart u = irPart t := by
  cases i
  case capAppend =>
    by_cases hroom : s.idx.toNat < s.cfg.cap
    · obtain rfl := next_inj.1 ((execCapAppend_eq hroom).symm.trans h)
      exact ⟨appended (irPart s), execCapAppend_eq (s := irPart s) hroom, rfl⟩
    · cases (execCapAppend_fault hroom).symm.trans h
  case decNec =>
    obtain rfl := next_inj.1 h
    exact ⟨publish (classifyNec (decodeSample s)) (consumePend (irPart s)), by rw [← decodeSample_irPart]; rfl, rfl⟩
  case wrCmdSnsStart =>
    obtain rfl := next_inj.1 h
    exact ⟨_, rfl, (irPart_startSensor _).trans (irPart_startSensor (noData s)).symm⟩
  case busMisaligned => cases h
  all_goals
    obtain rfl := next_inj.1 h
    refine ⟨_, rfl, ?_⟩
    unfold irPart; rfl

theorem exec_irPart_congr {i : Instr} {s s' t t' : State} (k : irPart s' = irPart s) (h : exec i s = .next t)
    (h' : exec i s' = .next t') : irPart t' = irPart t := by
  obtain ⟨u, hu, ht⟩ := exec_irPart h
  obtain ⟨u', hu', ht'⟩ := exec_irPart h'
  rw [k, hu] at hu'
  rw [← ht', ← ht, next_inj.1 hu']

/-- What can be read off the IR part agrees in states with one IR part. -/
theorem eq_of_irPart_eq {α : Type} {f : State → α} (hf : ∀ s, f (irPart s) = f s) {s s' : State}
    (k : irPart s' = irPart s) : f s' = f s := by
  rw [← hf s', k, hf]

/-- The sensor phase leaves the IR part alone, whichever operation it runs. -/
theorem exec_snsOp_irPart {d : Bool} {s t : State} (h : exec (snsOp d s) s = .next t) : irPart t = irPart s := by
  obtain ⟨u, hu, hs⟩ := exec_snsOp d s
  obtain rfl := next_inj.1 (hu.symm.trans h)
  rw [hs.frame]; rfl

theorem tick_of_rst {inp : TickInput} {s t : State} (hr : inp.rst = true) (h : tick inp s = .next t) :
    t = resetTick s := by
  rcases tick_next h with ⟨_, ht⟩ | ⟨hrst, _⟩
  · exact ht
  · cases hr.symm.trans hrst

/-- A tick that is not a reset tick keeps the IR parts equal, phase by phase. -/
theorem tick_irPart_congr {s s' t t' : State} {inp inp' : TickInput} (k : irPart s' = irPart s) (hr : inp.rst = false)
    (hrst : inp'.rst = inp.rst) (hir : inp'.irIn = inp.irIn) (hbus : inp'.bus = inp.bus) (h : tick inp s = .next t)
    (h' : tick inp' s' = .next t') : irPart t' = irPart t := by
  obtain ⟨s1, s2, s3, s4, h1, h2, h3, h4, rfl⟩ := tick_phases hr h
  obtain ⟨s1', s2', s3', s4', h1', h2', h3', h4', rfl⟩ := tick_phases (hrst.trans hr) h'
  rw [hbus] at h1'
  have k1 := exec_irPart_congr k h1 h1'
  rw [eq_of_irPart_eq (f := decOp) (fun _ => rfl) k1] at h2'
  have k2 := exec_irPart_congr k1 h2 h2'
  rw [hir, eq_of_irPart_eq (f := capOp inp.irIn) (fun _ => rfl) k2] at h3'
  have k3 := exec_irPart_congr k2 h3 h3'
  have k4 : irPart s4' = irPart s4 := by
    rw [exec_snsOp_irPart h4', exec_snsOp_irPart h4, hir]
    exact eq_of_irPart_eq (f := fun s => irPart (sampleIr inp.irIn s)) (fun _ => rfl) k3
  exact eq_of_irPart_eq (f := fun s => irPart (endPhase s)) (fun _ => rfl) k4

/-- Settles O57: agreeing on the IR path is having one IR part (`irPart_eq_iff`), which a reset tick and the phases of any
other tick (`tick_irPart_congr`) keep. -/
theorem irPathIgnoresSensorPath : Obligations.IrPathIgnoresSensorPath := by
  intro s s' t t' inp inp' hsame hdraws hrst hir hbus h h'
  have k := irPart_eq_iff.2 ⟨hsame, hdraws⟩
  refine irPart_eq_iff.1 ?_
  cases hr : inp.rst
  case true =>
    obtain rfl := tick_of_rst hr h
    obtain rfl := tick_of_rst (hrst.trans hr) h'
    exact eq_of_irPart_eq (f := fun s => irPart (resetTick s)) (fun _ => rfl) k
  case false => exact tick_irPart_congr k hr hrst hir hbus h h'

/-! ## The sensor path (R257, R268) -/

theorem SameSensor.symm {s t : State} (h : SameSensor s t) : SameSensor t s :=
  ⟨h.cfg.symm, h.snsDone.symm, h.cmdErr.symm, h.snsCode.symm, h.snsNbits.symm, h.snsState.symm, h.payload.symm,
    h.snsCnt.symm, h.dqOe.symm⟩

/-- What the bus phase makes of the sensor path depends on the sensor path and the request alone. -/
theorem BusStep.sameSensor {s s' t t' : State} {b : Option BusRequest} (k : SameSensor s s') (h : BusStep s b t)
    (h' : BusStep s' b t') : SameSensor t t' := by
  have hreader : readerOf t' = readerOf t := by
    rcases h.reader with ⟨hstart, hidle, rfl⟩ | ⟨hno, hkept⟩ <;>
      rcases h'.reader with ⟨hstart', hidle', rfl⟩ | ⟨hno', hkept'⟩
    · simp [readerOf, startSensor, hidle, hidle', k.cfg]
    · exact absurd ⟨hstart, k.snsState.trans hidle⟩ hno'
    · exact absurd ⟨hstart', k.snsState.symm.trans hidle'⟩ hno
    · obtain ⟨hst, hcnt, hn, hp, hc⟩ := hkept
      obtain ⟨hst', hcnt', hn', hp', hc'⟩ := hkept'
      have ht := readerOf_eq_iff.2 ⟨h.sameCapture.cfg, hst, hcnt, hn, hp, hc⟩
      have ht' := readerOf_eq_iff.2 ⟨h'.sameCapture.cfg, hst', hcnt', hn', hp', hc'⟩
      rw [ht', ht, k.readerOf_eq]
  obtain ⟨hcfg, hst, hcnt, hn, hp, hc⟩ := readerOf_eq_iff.1 hreader
  refine ⟨hcfg, ?_, ?_, hc, hn, hst, hp, hcnt, ?_⟩
  · rw [h'.snsDone, h.snsDone, k.snsDone, k.snsState]
  · rw [h'.cmdErr, h.cmdErr, k.cmdErr, k.snsState]
  · rw [h'.frame, h.frame]; exact k.dqOe

/-- What the sensor phase makes of the sensor path depends on the sensor path and the line alone. -/
theorem sensorPhase_sameSensor {d : Bool} {s s' t t' : State} (k : SameSensor s s') (h : sensorPhase d s = .next t)
    (h' : sensorPhase d s' = .next t') : SameSensor t t' := by
  obtain ⟨hreader, hline⟩ := sensorPhase_readerOf k.readerOf_eq h h'
  obtain ⟨hcfg, hst, hcnt, hn, hp, hc⟩ := readerOf_eq_iff.1 hreader
  have hs := sensorPhase_next h
  have hs' := sensorPhase_next h'
  refine ⟨hcfg, ?_, ?_, hc, hn, hst, hp, hcnt, hline⟩
  · rw [hs'.snsDone, hs.snsDone, k.snsDone, k.snsState, hst]
  · rw [hs'.cmdErr, hs.cmdErr, k.cmdErr]

/-- Settles O58: the bus phase (`BusStep.sameSensor`) and the sensor phase (`sensorPhase_sameSensor`) keep the agreement, and
the two phases between them leave the sensor path alone (`tick_sensor`). -/
theorem sensorPathIgnoresIrPath : Obligations.SensorPathIgnoresIrPath := by
  intro s s' t t' inp inp' hsame hrst hdq hbus h h'
  cases hr : inp.rst
  case true =>
    obtain rfl := tick_of_rst hr h
    obtain rfl := tick_of_rst (hrst.trans hr) h'
    exact ⟨hsame.cfg, rfl, rfl, rfl, rfl, rfl, rfl, rfl, rfl⟩
  case false =>
    obtain ⟨s1, s3, s4, hb, k, hs, rfl⟩ := tick_sensor hr h
    obtain ⟨s1', s3', s4', hb', k', hs', rfl⟩ := tick_sensor (hrst.trans hr) h'
    rw [hbus] at hb'
    rw [hdq] at hs'
    have k1 : SameSensor s1 s1' := hb.sameSensor hsame hb'
    have k3 : SameSensor s3 s3' := k.symm.trans (k1.trans k')
    obtain ⟨hcfg, hdone, herr, hc, hn, hst, hp, hcnt, hline⟩ := sensorPhase_sameSensor k3 hs hs'
    exact ⟨hcfg, hdone, herr, hc, hn, hst, hp, hcnt, hline⟩

/-! ## The quiet tick (R266) -/

theorem decoderPhase_of_noPend {s : State} (hp : s.decPend = false) : decoderPhase s = .next s := by
  obtain ⟨t, ht, hd⟩ := exec_decOp s
  rw [decoderPhase_eq, ht, hd.eq_of_idle hp]

/-- CAP_OFF has nothing to change in a capture unit that is already off (10_state.md R43). -/
theorem captureIdle_eq_self {s : State} (hoff : s.idx = 0#16 ∧ s.baseValid = false ∧ s.toArmed = false) :
    captureIdle s = s := by
  cases s
  simp_all [captureIdle]

theorem capturePhase_of_off {s : State} (hen : s.ctrl.irEn = false)
    (hoff : s.idx = 0#16 ∧ s.baseValid = false ∧ s.toArmed = false) (irIn : Bool) :
    capturePhase irIn s = .next (sampleIr irIn s) := by
  have hop : capOp irIn s = .capOff := by simp [capOp, capSelect, hen]
  have hexec : exec .capOff s = .next s := congrArg Host.Outcome.next (captureIdle_eq_self hoff)
  rw [capturePhase_eq, hop, hexec]; rfl

theorem sensorPhase_of_idle {s : State} (hidle : s.snsState = .idle) (d : Bool) :
    sensorPhase d s = .next { s with dqOe := false } := by
  have hop : snsOp d s = .snsIdle := by rw [snsOp, hidle]; rfl
  have hline : driveLine s = { s with dqOe := false } := by rw [driveLine, hidle]; rfl
  rw [sensorPhase_eq, hop, ← hline]; rfl

/-- A tick with nothing to do: the bus phase drops rdata, the decoder and capture operations change nothing, PREV_IR is
sampled, and the sensor phase releases the line. -/
theorem tick_of_quiet {inp : TickInput} {s : State} (hrst : inp.rst = false) (hbus : inp.bus = none)
    (hpend : s.decPend = false) (hen : s.ctrl.irEn = false)
    (hoff : s.idx = 0#16 ∧ s.baseValid = false ∧ s.toArmed = false) (hidle : s.snsState = .idle) :
    tick inp s = .next (endPhase { s with rdata := none, prevIr := inp.irIn, dqOe := false }) := by
  have bus : busPhase inp.bus s = .next (noData s) := by rw [hbus]; rfl
  have decoder : decoderPhase (noData s) = .next (noData s) := decoderPhase_of_noPend hpend
  have capture : capturePhase inp.irIn (noData s) = .next (sampleIr inp.irIn (noData s)) :=
    capturePhase_of_off (s := noData s) hen hoff inp.irIn
  exact tick_of_phases hrst bus decoder capture
    (sensorPhase_of_idle (s := sampleIr inp.irIn (noData s)) hidle inp.dqIn)

/-- Settles O59: the capture invariant says that the disabled capture unit is off, so the tick is that of `tick_of_quiet`. -/
theorem quietTickChangesOnlyNowAndPrevIr : Obligations.QuietTickChangesOnlyNowAndPrevIr := by
  intro s inp rest hinv hen hidle hpend hin hrst hbus
  have htick : step s = tick inp { s with inputs := rest } := by rw [step, tickInput, takeInput, hin]
  rw [htick]
  exact tick_of_quiet (s := { s with inputs := rest }) hrst hbus hpend hen (hinv.disabled hen) hidle

end Sys2Proof.Machine

/-! Proofs of 70_reset_and_hazards.md: what a reset tick leaves (R280), and the reader's registers while it is idle (R297). -/

namespace Sys2Proof.Machine

/-! ## The reader's registers while it is idle (R297) -/

/-- Without an SNS_START the bus phase leaves the reader alone, busy or idle. -/
theorem BusStep.readerOf_eq_of_noStart {s t : State} {b : Option BusRequest} (h : BusStep s b t)
    (hno : isSnsStart b = false) : readerOf t = readerOf s := by
  rcases h.reader with ⟨hstart, _⟩ | ⟨_, hst, hcnt, hn, hp, hc⟩
  · cases hno.symm.trans hstart
  · exact readerOf_eq_iff.2 ⟨h.sameCapture.cfg, hst, hcnt, hn, hp, hc⟩

/-- In IDLE the sensor phase only drives the line: SNS_IDLE is the one operation that it can run. -/
theorem SensorStep.eq_driveLine_of_idle {d : Bool} {s t : State} {i : Instr} (h : SensorStep d s i t)
    (hidle : s.snsState = .idle) : t = driveLine s := by
  cases h
  case idle => rfl
  all_goals simp_all only [reduceCtorEq]

/-- An idle reader without an SNS_START goes through a whole tick unchanged, SNS_CNT included. -/
theorem step_readerOf_of_idle {s t : State} (hr : (tickInput s).rst = false) (h : step s = .next t)
    (hidle : s.snsState = .idle) (hno : isSnsStart (tickInput s).bus = false) : readerOf t = readerOf s := by
  obtain ⟨s1, s3, i, s4, hb, k, hs, rfl⟩ := step_sensor hr h
  have hreader : readerOf s3 = readerOf s := by
    rw [k.readerOf_eq, hb.readerOf_eq_of_noStart hno, readerOf_takeInput]
  obtain ⟨_, hst, _⟩ := readerOf_eq_iff.1 hreader
  obtain rfl := hs.eq_driveLine_of_idle (hst.trans hidle)
  exact hreader

/-- Settles O53: the payload, CODE, NBITS and STATE are parts of the reader, which the tick leaves as it is
(`step_readerOf_of_idle`). -/
theorem sensorDataStableWhileIdle : Obligations.SensorDataStableWhileIdle := by
  intro s t hr h hidle hno
  obtain ⟨_, hst, _, hn, hp, hc⟩ := readerOf_eq_iff.1 (step_readerOf_of_idle hr h hidle hno)
  exact ⟨hp, hc, hn, hst.trans hidle⟩

/-! ## The reset tick (R280) -/

/-- A reset tick answers, whatever the request is, with the state after reset of the same instance. -/
theorem step_of_rst {s : State} (hr : (tickInput s).rst = true) :
    step s = .next (State.afterReset s.cfg (s.inputs.drop 1) (takeInput s).draws) := by
  rw [step, tick, if_pos hr, resetTick, takeInput_eq]

/-- After a reset tick no entry of BUF is listed, so each reads as the free value of the new draw. -/
theorem bufRead_afterReset (cfg : Config) (inputs : List TickInput) (draws : Nat) (b : Bool) (i : Nat) :
    bufRead (State.afterReset cfg inputs draws) b i = Config.freeSample draws (bufKey b i) := rfl

/-- The registers read the same after a reset tick of any instance: those of `registersAfterReset`. -/
theorem registerWord_afterReset (cfg : Config) (inputs : List TickInput) (draws : Nat) (off : Byte) :
    registerWord off (State.afterReset cfg inputs draws) = if off = 0x18#8 then 0x0000000F#32 else 0#32 :=
  registersAfterReset off

/-- Settles O12: the tick answers the state after reset (`step_of_rst`). The words of IR_RESULT, SNS_RESULT and the data
registers are those of their offsets (`registerWord_afterReset`), the entries of BUF read by `bufRead_afterReset`, and every
other element is a field of that state. -/
theorem resetTickResetsEveryElement : Obligations.ResetTickResetsEveryElement := by
  intro s hr
  have word := registerWord_afterReset s.cfg (s.inputs.drop 1) (takeInput s).draws
  exact ⟨_, step_of_rst hr, rfl, rfl, word 0x0C#8, rfl, rfl, word 0x18#8, word 0x1C#8, word 0x20#8, rfl, rfl, rfl, rfl, rfl,
    rfl, rfl, rfl, rfl, rfl, rfl, rfl, rfl, bufRead_afterReset _ _ _, rfl, rfl, rfl, rfl⟩

end Sys2Proof.Machine

/-! Proofs of 30_encoding.md, sections 4, 6 and 7: the decoder against the encoder, against the rows of the opcode table, and
on words written out (R98, R100 to R103, R105). -/

namespace Sys2Proof.Machine

/-! ## Decoding an encoded operation -/

theorem reservedOffset_eq_true {off : Byte} : reservedOffset off = true ↔ off.toNat % 4 = 0 ∧ 0x24 ≤ off.toNat := by
  simp [reservedOffset]

theorem readOnlyOffset_eq_true {off : Byte} :
    readOnlyOffset off = true ↔ off.toNat % 4 = 0 ∧ 0x0C ≤ off.toNat ∧ off.toNat ≤ 0x20 := by
  simp [readOnlyOffset, and_assoc]

/-- The three writable registers lie below the read-only ones. -/
theorem decodeWrite_readOnly {off : Byte} (h : readOnlyOffset off = true) (wdata : Word) :
    decodeWrite off wdata = .wrRo off wdata := by
  have hne : ∀ c : Byte, readOnlyOffset c = false → off ≠ c := by
    rintro c hc rfl
    cases h.symm.trans hc
  rw [decodeWrite, if_neg (hne 0x00#8 rfl), if_neg (hne 0x04#8 rfl), if_neg (hne 0x08#8 rfl), if_pos h]

theorem decode_requestWord_of_fields {off : Byte} {we : Bool} {wdata : Word} {i : Instr}
    (h : decodeFields off we wdata = i) : decode (.busReq (requestWord off we wdata)) = .ok i :=
  (decode_requestWord off we wdata).trans (congrArg _ h)

/-- Settles O2: a request word decodes by its fields (`decode_requestWord`), and the operand bounds of R103 pick the branch of
the operation. The word of every other operation is a constant, on which the decoder computes. -/
theorem decodeOfEncodeIsInstr : Obligations.DecodeOfEncodeIsInstr := by
  intro i hwf
  cases i with
  | rdRsvd off =>
    obtain ⟨halign, hres⟩ := reservedOffset_eq_true.1 hwf
    exact decode_requestWord_of_fields ((decodeFields_read halign _).trans (decodeRead_reserved hres))
  | wrCtrl wdata => exact decode_requestWord_of_fields rfl
  | wrStatus wdata => exact decode_requestWord_of_fields rfl
  | wrCmdNop wdata => exact decode_requestWord_of_fields (decodeCommand_nop (beq_iff_eq.1 hwf))
  | wrCmdSnsStart wdata => exact decode_requestWord_of_fields (decodeCommand_start (beq_iff_eq.1 hwf))
  | wrCmdRsvd wdata => exact decode_requestWord_of_fields (decodeCommand_reserved (of_decide_eq_true hwf))
  | wrRo off wdata =>
    obtain ⟨halign, -⟩ := readOnlyOffset_eq_true.1 hwf
    exact decode_requestWord_of_fields ((decodeFields_write halign _).trans (decodeWrite_readOnly hwf _))
  | wrRsvd off wdata =>
    obtain ⟨halign, hres⟩ := reservedOffset_eq_true.1 hwf
    exact decode_requestWord_of_fields ((decodeFields_write halign _).trans (decodeWrite_reserved hres _))
  | busMisaligned off we wdata =>
    exact decode_requestWord_of_fields (decodeFields_misaligned (bne_iff_ne.1 hwf) we wdata)
  | _ => rfl

/-! ## The field decoder and the rows of the bus table

A row that applies to a word agrees with each of its fields, so the rows are compared with the decoder field by field, as
R103 does: `off[1:0]` picks out the misaligned requests, `off` and `we` decide an aligned one, and of a write of CMD it is
CMD.OP that decides. -/

theorem BusRow.fields_of_hits {r : BusRow} {w : BitVec 41} (h : r.hits w = true) :
    reqOff w &&& reqOff r.mask = reqOff r.pattern ∧ (reqWe w && reqWe r.mask) = reqWe r.pattern ∧
    reqWdata w &&& reqWdata r.mask = reqWdata r.pattern := by
  have hand : w &&& r.mask = r.pattern := beq_iff_eq.1 h
  rw [← hand]
  exact ⟨BitVec.extractLsb'_and.symm, BitVec.getLsbD_and.symm, BitVec.extractLsb'_and.symm⟩

theorem BusRow.mnemonic_of_misaligned : ∀ v : BitVec 2, v ≠ 0#2 → ∀ r ∈ busRows,
    v &&& (reqOff r.mask).setWidth 2 = (reqOff r.pattern).setWidth 2 → r.mnemonic = "BUS_MISALIGNED" := by decide

/-- But for a write of CMD, the decoder may be asked with any `wdata` (`mnemonic_decodeFields_congr`); here it is 0. -/
theorem BusRow.mnemonic_of_aligned : ∀ (we : Bool) (off : Byte), off.toNat % 4 = 0 → ¬ (we = true ∧ off = 0x04#8) →
    ∀ r ∈ busRows, (we && reqWe r.mask) = reqWe r.pattern → off &&& reqOff r.mask = reqOff r.pattern →
    r.mnemonic = (decodeFields off we 0#32).mnemonic := by decide

theorem BusRow.mnemonic_of_cmdOp : ∀ op : BitVec 4, ∀ r ∈ busRows,
    reqWe r.mask = reqWe r.pattern → 0x04#8 &&& reqOff r.mask = reqOff r.pattern →
    op &&& (reqWdata r.mask).setWidth 4 = (reqWdata r.pattern).setWidth 4 →
    r.mnemonic = (decodeCommand (op.setWidth 32)).mnemonic := by decide

theorem mnemonic_decodeCommand_congr {a b : Word} (h : cmdOp a = cmdOp b) :
    (decodeCommand a).mnemonic = (decodeCommand b).mnemonic := by
  unfold decodeCommand
  rw [h]
  split_ifs <;> rfl

theorem cmdOp_setWidth (wdata : Word) : cmdOp ((wdata.setWidth 4).setWidth 32) = cmdOp wdata := by
  simp [cmdOp]

/-- But for a write of CMD, `wdata` is an operand and selects nothing. -/
theorem mnemonic_decodeFields_congr {off : Byte} {we : Bool} (h : ¬ (we = true ∧ off = 0x04#8)) (a b : Word) :
    (decodeFields off we a).mnemonic = (decodeFields off we b).mnemonic := by
  by_cases halign : off.toNat % 4 = 0
  · cases we with
    | false => rw [decodeFields_read halign, decodeFields_read halign]
    | true =>
      have hcmd : off ≠ 0x04#8 := fun hoff => h ⟨rfl, hoff⟩
      rw [decodeFields_write halign, decodeFields_write halign]
      unfold decodeWrite
      rw [if_neg hcmd, if_neg hcmd]
      split_ifs <;> rfl
  · rw [decodeFields_misaligned halign, decodeFields_misaligned halign]; rfl

theorem BusRow.mnemonic_eq_of_hits {r : BusRow} (hr : r ∈ busRows) {w : BitVec 41} (h : r.hits w = true) :
    (decodeRequest w).mnemonic = r.mnemonic := by
  obtain ⟨hoff, hwe, hwdata⟩ := BusRow.fields_of_hits h
  rw [decodeRequest]
  generalize reqOff w = off at hoff
  generalize reqWe w = we at hwe
  generalize reqWdata w = wdata at hwdata
  by_cases halign : off.toNat % 4 = 0
  · by_cases hcmd : we = true ∧ off = 0x04#8
    · obtain ⟨rfl, rfl⟩ := hcmd
      rw [Bool.true_and] at hwe
      have hop : wdata.setWidth 4 &&& (reqWdata r.mask).setWidth 4 = (reqWdata r.pattern).setWidth 4 := by
        rw [← BitVec.setWidth_and, hwdata]
      calc (decodeFields 0x04#8 true wdata).mnemonic
        _ = (decodeCommand ((wdata.setWidth 4).setWidth 32)).mnemonic :=
          mnemonic_decodeCommand_congr (cmdOp_setWidth wdata).symm
        _ = r.mnemonic := (BusRow.mnemonic_of_cmdOp _ r hr hwe hoff hop).symm
    · calc (decodeFields off we wdata).mnemonic
        _ = (decodeFields off we 0#32).mnemonic := mnemonic_decodeFields_congr hcmd _ _
        _ = r.mnemonic := (BusRow.mnemonic_of_aligned we off halign hcmd r hr hwe hoff).symm
  · have hlow : off.setWidth 2 ≠ 0#2 := fun hzero => halign (by simpa using congrArg BitVec.toNat hzero)
    have hoff2 : off.setWidth 2 &&& (reqOff r.mask).setWidth 2 = (reqOff r.pattern).setWidth 2 := by
      rw [← BitVec.setWidth_and, hoff]
    rw [decodeFields_misaligned halign]
    exact (BusRow.mnemonic_of_misaligned _ hlow r hr hoff2).symm

/-- Settles O4: the row has the mnemonic of the operation that the word's fields select (`BusRow.mnemonic_eq_of_hits`). -/
theorem requestWordsDecodeAsTheirRow : Obligations.RequestWordsDecodeAsTheirRow :=
  fun _ hr w h => ⟨decodeRequest w, rfl, BusRow.mnemonic_eq_of_hits hr h⟩

/-! ## Words written out -/

/-- Settles O1: the rows of the vector tables and the fields of the request words compute. -/
theorem wordsWrittenOutDecode : Obligations.WordsWrittenOutDecode :=
  ⟨rfl, rfl, rfl, rfl, rfl, rfl, rfl, rfl, rfl, rfl⟩

end Sys2Proof.Machine
